-- ==== Sys2Proof/Word.lean ====
section
/-! DEFINITION. The words the 6240 exchanges with its masters: 16-bit words, 32-bit quantities, bytes. -/

namespace Sys2Proof

/-- A word of a port window (10_formats.md: every word is 16 bits). -/
abbrev Word := BitVec 16

/-- A 32-bit quantity, which travels as two words, the high word first (R180). -/
abbrev Quad := BitVec 32

/-- One payload byte of a bus frame (R101). -/
abbrev Byte := BitVec 8

/-- A classic CAN identifier, 0 to 2047 (R101). -/
abbrev BusId := BitVec 11

end Sys2Proof
end

