-- ==== Sys2Proof/Config.lean ====
section
/-! DEFINITION. What is fixed for the part: identification codes, capacities, fixed times, and the one free value. -/

namespace Sys2Proof.Config

/-- R178. -/
def vendorCode : Word := 0x7A51#16
/-- R178. -/
def partCode : Word := 0x6240#16
/-- R178. -/
def revision : Word := 3#16

/-- R15: entries of a Unit Record. -/
def recordCap : Nat := 128
/-- R175: notices of a port's queue. -/
def noticeCap : Nat := 16
/-- R130: requests of the measurement queue. -/
def requestCap : Nat := 16
/-- R130: requests of one nest in it. -/
def requestShare : Nat := 10
/-- R150: ordinary prompts of the prompt queue. -/
def promptCap : Nat := 8
/-- R150: ordinary prompts of one nest in it. -/
def promptShare : Nat := 5
/-- R105: frames of a transmit queue. -/
def txCap : Nat := 8
/-- R119: replies of a scheduled-reply list. -/
def schedCap : Nat := 8
/-- R4: the hold count that aborts a run. -/
def holdLimit : Nat := 4

/-- R53: the time the relays are given to settle, in ms. -/
def scanSettle : Nat := 10
/-- R53: the length of one continuity test, in ms. -/
def scanTest : Nat := 12
/-- R53: a path passes below 10 ohms; in milliohms (log 14). -/
def scanPassBelow : Nat := 10000

/-- R48: contact counts saturate here. -/
def contactCap : Nat := 16777215
/-- R60: the greatest wear limit. -/
def wearLimitMax : Nat := 16000000
/-- R64. -/
def wearLimitPowerOn : Nat := 250000
/-- R30: clamp and release timeouts at power-on, in ms. -/
def fixtureTimeoutPowerOn : Nat := 1500
/-- R73: filter times at power-on, in ms. -/
def filterPowerOn : Nat := 2
/-- R137: gate timeouts at power-on, in ms. -/
def gateTimeoutPowerOn : Nat := 5000
/-- R129: broadcast periods after a reset, in ms. -/
def broadcastPeriodReset : Nat := 100

/-- FREE VALUE (log 10). R40 makes one assertion of STOP an event at both nests' FXCs and gives no order between them:
where this is true of the counter's value, Nest B takes it first. It has no body: nothing can be proved of its value. -/
opaque stopNestBFirst : Nat → Bool

end Sys2Proof.Config
end

