-- ==== Sys2Proof/Syntax.lean ====
section
/-! DEFINITION. The events the 6240 takes: one constructor for each row of spec/opcode_table.json, and the types of their operands.
A port command's parameters are not operands: the part reads them from the port's PARAM slots when the command is taken (R168). -/

namespace Sys2Proof

/-- The two fixture positions (00_scope.md). -/
inductive Nest where
  | a | b
deriving DecidableEq, Repr

def Nest.other : Nest → Nest
  | .a => .b
  | .b => .a

/-- The three ports (00_scope.md Table 0-3). -/
inductive Port where
  | stationA | stationB | operator
deriving DecidableEq, Repr

/-- R1: the binding of station ports to nests is fixed; the Operator Port is bound to none. -/
def Port.nest? : Port → Option Nest
  | .stationA => some .a
  | .stationB => some .b
  | .operator => none

/-- The station port of a nest. -/
def Nest.port : Nest → Port
  | .a => .stationA
  | .b => .stationB

/-- A logic level of a trigger line (R73). -/
inductive Level where
  | low | high
deriving DecidableEq, Repr

/-- R102: the receive result every arrival carries. -/
inductive RxResult where
  | good | checkError | formatError
deriving DecidableEq, Repr

/-- R101: a frame as the BEU holds it; the length is the number of payload bytes, byte 0 first. -/
structure Frame where
  id : BusId
  data : List Byte
deriving DecidableEq, Repr

/-- R106: the three ways a transmission of the head frame ends. -/
inductive TxOutcome where
  | arbitrationLost | acknowledged | notAcknowledged
deriving DecidableEq, Repr

/-- R168: which answer reaches the PIF: the one the port awaits, or one that a port reset abandoned. -/
inductive AnswerKind where
  | awaited | abandoned
deriving DecidableEq, Repr

/-- R80: the three kinds of stimulus channel. -/
inductive ChanKind where
  | level | pulse | switch
deriving DecidableEq, Repr

/-- The rows of spec/opcode_table.json, in its order. -/
inductive Instr where
  -- port commands: a COMMAND word written at the port
  | identify (p : Port)
  | openRun (p : Port)
  | holdRun (p : Port)
  | resumeRun (p : Port)
  | endRun (p : Port)
  | abortRun (p : Port)
  | releaseRun (p : Port)
  | postVerdict (p : Port)
  | cancelEntry (p : Port)
  | readRecord (p : Port)
  | readNestStatus (p : Port)
  | operatorAbort (p : Port)
  | clamp (p : Port)
  | scan (p : Port)
  | unclamp (p : Port)
  | setFixtureTiming (p : Port)
  | readFixtureStatus (p : Port)
  | writeProbeLine (p : Port)
  | readProbeLine (p : Port)
  | setWearLimit (p : Port)
  | readFixtureData (p : Port)
  | restoreFixtureData (p : Port)
  | claimChannels (p : Port)
  | releaseChannels (p : Port)
  | setSafeValue (p : Port)
  | readClaimTable (p : Port)
  | setPace (p : Port)
  | readPace (p : Port)
  | stageA (p : Port)
  | stageB (p : Port)
  | stageMany (p : Port)
  | commit (p : Port)
  | configureChannel (p : Port)
  | readChannel (p : Port)
  | setTriggerFilter (p : Port)
  | readTriggerLines (p : Port)
  | setLink (p : Port)
  | setRestartIdentifier (p : Port)
  | writeBroadcastEntry (p : Port)
  | readBroadcastEntry (p : Port)
  | writeReplyEntry (p : Port)
  | armReply (p : Port)
  | readReplyEntry (p : Port)
  | armWatch (p : Port)
  | readLinkStatus (p : Port)
  | requestMeasurement (p : Port)
  | calibrateOffset (p : Port)
  | setGateTimeout (p : Port)
  | readMeasurementStatus (p : Port)
  | postPrompt (p : Port)
  | takePrompt (p : Port)
  | answerPrompt (p : Port)
  | declinePrompt (p : Port)
  | readPromptQueue (p : Port)
  -- other accesses to a port window, and answers that reach it
  | undefinedCommand (p : Port) (w : Word)
  | commandAnswer (p : Port) (which : AnswerKind)
  | statusRead (p : Port)
  | dataRead (p : Port)
  | dataWrite (p : Port) (w : Word)
  | noticePop (p : Port) (w : Word)
  | attentionEnable (p : Port) (on : Bool)
  | portReset (p : Port) (on : Bool)
  | windowWrite (p : Port) (w : Word)
  -- resets and lines
  | powerOn
  | resetLine
  | stopAsserted
  | stopDeasserted
  | lidOpened (n : Nest)
  | lidClosed (n : Nest)
  | homeSensed (n : Nest)
  | homeLost (n : Nest)
  | closedSensed (n : Nest)
  | closedLost (n : Nest)
  | pressureSensed (n : Nest)
  | pressureLost (n : Nest)
  -- timers, and work that ends
  | clampTimerExpiry (n : Nest)
  | releaseTimerExpiry (n : Nest)
  | scanTestEnd (n : Nest) (milliohm : Nat)
  | scanCompletion (n : Nest)
  | triggerInputChange (l : Fin 4) (level : Level)
  | filterExpiry (l : Fin 4)
  | paceExpiry (n : Nest)
  | pulsePeriodEnd (c : Fin 16)
  | frameArrival (n : Nest) (r : RxResult) (f : Frame)
  | transmitStart (n : Nest)
  | transmissionEnd (n : Nest) (o : TxOutcome)
  | broadcastTimerExpiry (n : Nest) (k : Fin 24)
  | replyDue (n : Nest) (k : Nat)
  | windowExpiry (n : Nest) (w : Fin 8)
  | gateTimerExpiry (n : Nest) (seq : Nat)
  | settleEnd
  | measurementCompletion
  | calibrationCompletion
  | answerTimerExpiry
  | timebaseTick
  | measurementSample (reading : Int)
  | senseInputCrossing (n : Nest) (k : Fin 12) (mv : Int) (us : Nat)
  | spiHeaderWord (p : Port) (w : Word)
deriving DecidableEq, Repr

end Sys2Proof
end

