-- ==== Sys2Proof/Decode.lean ====
section
/-! DEFINITION. The command a COMMAND word spells at a port (Table 10-3 and Table 9-3), and decodeTableWord.
spec/opcode_table.json gives no row any bits, so decodeTableWord answers none for every word. -/

namespace Sys2Proof

/-- Tables 10-3 and 9-3: the commands permitted at a station port, by command code. -/
def stationCommandOf (p : Port) : Nat → Option Instr
  | 0x01 => some (.identify p)
  | 0x10 => some (.openRun p)
  | 0x11 => some (.holdRun p)
  | 0x12 => some (.resumeRun p)
  | 0x13 => some (.endRun p)
  | 0x14 => some (.abortRun p)
  | 0x15 => some (.releaseRun p)
  | 0x16 => some (.postVerdict p)
  | 0x17 => some (.cancelEntry p)
  | 0x18 => some (.readRecord p)
  | 0x19 => some (.readNestStatus p)
  | 0x20 => some (.clamp p)
  | 0x21 => some (.scan p)
  | 0x22 => some (.unclamp p)
  | 0x23 => some (.setFixtureTiming p)
  | 0x24 => some (.readFixtureStatus p)
  | 0x25 => some (.writeProbeLine p)
  | 0x26 => some (.readProbeLine p)
  | 0x27 => some (.setWearLimit p)
  | 0x28 => some (.readFixtureData p)
  | 0x29 => some (.restoreFixtureData p)
  | 0x30 => some (.claimChannels p)
  | 0x31 => some (.releaseChannels p)
  | 0x32 => some (.setSafeValue p)
  | 0x33 => some (.readClaimTable p)
  | 0x34 => some (.setPace p)
  | 0x35 => some (.readPace p)
  | 0x36 => some (.stageA p)
  | 0x37 => some (.stageB p)
  | 0x38 => some (.stageMany p)
  | 0x39 => some (.commit p)
  | 0x3A => some (.configureChannel p)
  | 0x3B => some (.readChannel p)
  | 0x40 => some (.setTriggerFilter p)
  | 0x41 => some (.readTriggerLines p)
  | 0x50 => some (.setLink p)
  | 0x51 => some (.setRestartIdentifier p)
  | 0x52 => some (.writeBroadcastEntry p)
  | 0x53 => some (.readBroadcastEntry p)
  | 0x54 => some (.writeReplyEntry p)
  | 0x55 => some (.armReply p)
  | 0x56 => some (.readReplyEntry p)
  | 0x57 => some (.armWatch p)
  | 0x58 => some (.readLinkStatus p)
  | 0x60 => some (.requestMeasurement p)
  | 0x61 => some (.calibrateOffset p)
  | 0x62 => some (.setGateTimeout p)
  | 0x63 => some (.readMeasurementStatus p)
  | 0x70 => some (.postPrompt p)
  | 0x74 => some (.readPromptQueue p)
  | _ => none

/-- Tables 10-3 and 9-3: the commands permitted at the Operator Port, by command code. -/
def operatorCommandOf (p : Port) : Nat → Option Instr
  | 0x01 => some (.identify p)
  | 0x19 => some (.readNestStatus p)
  | 0x1A => some (.operatorAbort p)
  | 0x33 => some (.readClaimTable p)
  | 0x3B => some (.readChannel p)
  | 0x41 => some (.readTriggerLines p)
  | 0x63 => some (.readMeasurementStatus p)
  | 0x71 => some (.takePrompt p)
  | 0x72 => some (.answerPrompt p)
  | 0x73 => some (.declinePrompt p)
  | 0x74 => some (.readPromptQueue p)
  | _ => none

/-- R168: the event a COMMAND word is at a port: the permitted command of its code (bits 7:0, Table 10-1), or the
UNDEFINED_COMMAND row where the code is not defined or not permitted there. -/
def decodeCommand (p : Port) (w : Word) : Instr :=
  let code := w.toNat % 256
  let found := match p with
    | .stationA | .stationB => stationCommandOf p code
    | .operator => operatorCommandOf p code
  found.getD (.undefinedCommand p w)

/-- Table 10-1: the event a PORT CONTROL write is. -/
def decodePortControl (p : Port) (w : Word) : Instr :=
  if w.getLsbD 1 then .portReset p (w.getLsbD 0) else .attentionEnable p (w.getLsbD 0)

/-- R167, Table 9-1: the event that a word written to a slot of a port's window is. -/
def decodeWrite (p : Port) (slot : Nat) (w : Word) : Instr :=
  match slot with
  | 0 => decodeCommand p w
  | 18 => .dataWrite p w
  | 23 => .noticePop p w
  | 24 => decodePortControl p w
  | _ => .windowWrite p w

/-- R80, Table 5-1: the kind is fixed by the channel number. -/
def chanKind (c : Fin 16) : ChanKind :=
  if c.val < 8 then .level else if c.val < 14 then .pulse else .switch

/-- No row of spec/opcode_table.json gives bits. -/
def decodeTableWord (_nbits _w : Nat) : Option Instr := none

end Sys2Proof
end

