-- ==== Sys2Proof/WellFormed.lean ====
section
/-! DEFINITION. Which events the hardware can present: checks the operand types leave open. -/

namespace Sys2Proof

/-- R101: a frame's length is 0 to 8. -/
def Frame.wf (f : Frame) : Bool := f.data.length ≤ 8

/-- An event the hardware can present. Every other constructor's operands are right by their types. -/
def Instr.wf : Instr → Bool
  | .undefinedCommand p w => decodeCommand p w = .undefinedCommand p w
  | .pulsePeriodEnd c => chanKind c = .pulse  -- R84
  | .frameArrival _ r f => r ≠ .good || f.wf
  | .replyDue _ k => k < Config.schedCap
  | .gateTimerExpiry _ seq => 1 ≤ seq && seq ≤ Config.recordCap
  | .senseInputCrossing _ _ _ us => us < 1000
  | _ => true

end Sys2Proof
end

