-- ==== Sys2Proof/Machine/State.lean ====
section
/-! DEFINITION. The state of the 6240, block by block as 00_scope.md Table 0-1 lists them, its value after power-on,
and the reasons a step could stop. INVENTORY.md lists every piece with its rule and reset value. -/

namespace Sys2Proof.Machine

/-! ## Things the part has one of for each nest, or for each port -/

structure PerNest (α : Type) where
  a : α
  b : α
deriving DecidableEq, Repr

def PerNest.get {α : Type} (x : PerNest α) : Nest → α
  | .a => x.a
  | .b => x.b

def PerNest.set {α : Type} (x : PerNest α) (n : Nest) (v : α) : PerNest α :=
  match n with
  | .a => { x with a := v }
  | .b => { x with b := v }

structure PerPort (α : Type) where
  stationA : α
  stationB : α
  operator : α
deriving DecidableEq, Repr

def PerPort.get {α : Type} (x : PerPort α) : Port → α
  | .stationA => x.stationA
  | .stationB => x.stationB
  | .operator => x.operator

def PerPort.set {α : Type} (x : PerPort α) (p : Port) (v : α) : PerPort α :=
  match p with
  | .stationA => { x with stationA := v }
  | .stationB => { x with stationB := v }
  | .operator => { x with operator := v }

/-! ## Timers -/

/-- A timer that is stopped, or running with its time of expiry in ms (R27, R107, R150). -/
inductive Timer where
  | stopped
  | running (expiry : Nat)
deriving DecidableEq, Repr

/-- A timer of a nest's run, which a hold pauses with its remaining time (R76, R123, R130). -/
inductive RunTimer where
  | stopped
  | running (expiry : Nat)
  | paused (remaining : Nat)
deriving DecidableEq, Repr

/-- An exact moment in milliseconds, num / den (R84: a pulse period is 10000 ÷ r ms, not rounded). -/
structure Moment where
  num : Nat
  den : Nat
deriving DecidableEq, Repr

/-! ## Run Controller (Chapter 1) -/

/-- R1. -/
inductive RunState where
  | idle | active | held | ended | aborted
deriving DecidableEq, Repr

/-- Table 1-3, overall verdict. -/
inductive Verdict where
  | none | pass | fail | incomplete | aborted
deriving DecidableEq, Repr

/-- Table 1-3, end cause. -/
inductive EndCause where
  | none | hostEnd | hostAbort | operator | fixture | holdLimit | stop
deriving DecidableEq, Repr

/-- Table 1-6, kind. -/
inductive EntryKind where
  | measure | calibration | prompt | busExpect | busForbid | note
deriving DecidableEq, Repr

/-- Table 1-6, outcome. -/
inductive EntryOutcome where
  | pending | pass | fail | noResult
deriving DecidableEq, Repr

/-- Table 1-7, details. -/
inductive EntryDetail where
  | none | inLimits | low | high | answerYes | answerNo | answerAck | seen | absent
  | cancelled | ended | aborted | timeout | gateTimeout | lineLost | withdrawn
deriving DecidableEq, Repr

/-- Table 1-6. The sequence number is the entry's position in the list plus one (R15), so it is not a field. -/
structure Entry where
  kind : EntryKind
  tag : Word
  outcome : EntryOutcome
  detail : EntryDetail
  attempts : Nat
  value : Option Quad
  limits : Option (Quad × Quad)
  done : Option Quad
deriving DecidableEq, Repr

/-- The run and Unit Record of one nest (R1, R14, R15). The entry count is the length of entries. -/
structure Rnc where
  state : RunState
  serial : BitVec 16
  unit : Quad
  plan : Word
  verdict : Verdict
  endCause : EndCause
  holdCount : Nat
  busErrors : Nat
  busLimit : Nat
  openTime : Option Quad
  endTime : Option Quad
  entries : List Entry
deriving DecidableEq, Repr

/-! ## Fixture Controller (Chapters 2 and 3) -/

/-- R27. -/
inductive FixtureState where
  | opened | closing | clamped | scanning | contacted | releasing | fault
deriving DecidableEq, Repr

/-- R27, Table 2-5. -/
inductive FaultCause where
  | none | clampTimeout | releaseTimeout | lidOpened | clampLost | stop
deriving DecidableEq, Repr

/-- R27. -/
inductive ScanResult where
  | none | passed | failed | lostCritical | abandoned
deriving DecidableEq, Repr

/-- Table 3-1, role. -/
inductive Role where
  | unused
  | stim (c : Fin 16)
  | sense (k : Fin 12)
  | bus
  | supply
deriving DecidableEq, Repr

/-- Table 3-1, path. -/
inductive Path where
  | primary
  | spare (s : Fin 6)
  | lost
deriving DecidableEq, Repr

/-- R48, Table 3-1. -/
structure Line where
  role : Role
  path : Path
  mark : Bool
  count : Nat
  worn : Bool
deriving DecidableEq, Repr

/-- R54, R55: why a line became LOST. -/
inductive LossCause where
  | noSpare | spareFailed | sparePathFailed
deriving DecidableEq, Repr

/-- R53: what a scan is doing: letting the relays settle, testing a line on its working path, testing the spare a retired
line was given, or nothing more. -/
inductive ScanTarget where
  | settle
  | line (k : Fin 32)
  | spare (k : Fin 32) (s : Fin 6)
  | finished
deriving DecidableEq, Repr

/-- R53 to R55: a scan in progress and its working view of the map. -/
structure Scan where
  target : ScanTarget
  /-- when the settle time or the present test ends -/
  due : Nat
  /-- lines of the fixed set not yet tested, ascending -/
  todo : List (Fin 32)
  /-- the set fixed when SCAN was taken -/
  tested : List (Fin 32)
  paths : Vector Path 32
  marks : Vector Bool 32
  spares : Vector (Option (Fin 32)) 6
  /-- spares that failed a test in this scan -/
  failedSpares : List (Fin 6)
  firstFail : Option (Fin 32)
  /-- lines that became LOST in this scan, in the order they did -/
  lost : List (Fin 32 × LossCause)
deriving DecidableEq, Repr

/-- The fixture of one nest (R27, R29, R48, R50, R60). -/
structure Fxc where
  state : FixtureState
  cause : FaultCause
  permit : Bool
  clampTimeout : Nat
  releaseTimeout : Nat
  clampTimer : Timer
  releaseTimer : Timer
  scanResult : ScanResult
  firstFail : Option (Fin 32)
  scan : Option Scan
  lid : Bool
  home : Bool
  closed : Bool
  pressure : Bool
  lines : Vector Line 32
  spares : Vector (Option (Fin 32)) 6
  wearLimit : Nat
deriving DecidableEq, Repr

/-! ## Stimulus Unit (Chapters 4 and 5) -/

inductive ChanMode where
  | direct | latched | alternate | sweep
deriving DecidableEq, Repr

inductive CommitSource where
  | soft | line | pace
deriving DecidableEq, Repr

/-- R75: an edge selection, also a gate edge (R130). -/
inductive EdgeSel where
  | none | rising | falling | both
deriving DecidableEq, Repr

/-- R73: the direction of an edge. -/
inductive Edge where
  | rising | falling
deriving DecidableEq, Repr

inductive AltPhase where
  | a | b
deriving DecidableEq, Repr

/-- R66, R81, Table 5-2. The routed flag and the output are derived (Machine/Outputs.lean). -/
structure Channel where
  owner : Option Nest
  waiter : Option Nest
  safe : Nat
  stagedA : Nat
  stagedB : Nat
  live : Nat
  mode : ChanMode
  source : CommitSource
  line : Fin 4
  edge : EdgeSel
  phase : AltPhase
  sweepN : Nat
  startQ : Nat
  pos : Nat
  clamped : Bool
  rate : Nat
  periodEnd : Moment
deriving DecidableEq, Repr

/-- R76. -/
structure Pace where
  period : Nat
  timer : RunTimer
deriving DecidableEq, Repr

structure Stu where
  chans : Vector Channel 16
  pace : PerNest Pace
deriving DecidableEq, Repr

/-! ## Trigger Inputs (Chapter 4) -/

/-- R73. -/
structure TriggerLine where
  input : Level
  filtered : Level
  change : Option Nat
  filter : Nat
deriving DecidableEq, Repr

/-! ## Bus Emulation Unit (Chapter 6) -/

inductive LinkState where
  | off | listen | active
deriving DecidableEq, Repr

/-- R107. -/
structure LinkedField where
  offset : Nat
  chan : Fin 16
deriving DecidableEq, Repr

/-- R107. -/
structure Broadcast where
  id : BusId
  len : Nat
  bytes : Vector Byte 8
  period : Nat
  enabled : Bool
  linked : Option LinkedField
  timer : Timer
deriving DecidableEq, Repr

inductive Reservation where
  | none | buffer0 | buffer1 | alternate | defer | silent
deriving DecidableEq, Repr

/-- R110: a reply buffer. -/
structure ReplyBuffer where
  len : Nat
  bytes : Vector Byte 8
deriving DecidableEq, Repr

inductive BufferSel where
  | zero | one
deriving DecidableEq, Repr

/-- R110, Table 6-2. -/
structure Reply where
  matchId : BusId
  matchByte : Option Byte
  replyId : BusId
  buf0 : ReplyBuffer
  buf1 : ReplyBuffer
  delay : Nat
  defer : Nat
  reservation : Reservation
  oneShot : Bool
  phase : BufferSel
  matchCount : Nat
  replyCount : Nat
  dropCount : Nat
deriving DecidableEq, Repr

/-- R119. -/
inductive ReplyForm where
  | buffer0 | buffer1 | alternate | deferFirst | deferSecond
deriving DecidableEq, Repr

/-- R119. -/
structure Scheduled where
  entry : Fin 16
  form : ReplyForm
  due : Nat
deriving DecidableEq, Repr

/-- R105: the source tag. -/
inductive TxSource where
  | broadcast (k : Fin 24)
  | reply (k : Fin 16)
deriving DecidableEq, Repr

/-- R105. -/
structure TxFrame where
  frame : Frame
  source : TxSource
  attempts : Nat
deriving DecidableEq, Repr

/-- R104, R106: the transmitter has nothing on the wire, sends the head frame, or finishes a frame whose outcome is not taken
because the link left ACTIVE. -/
inductive TxState where
  | idle | sending | orphaned
deriving DecidableEq, Repr

inductive WatchKind where
  | expect | forbid
deriving DecidableEq, Repr

/-- R123: one match byte. -/
structure MatchByte where
  index : Nat
  value : Byte
deriving DecidableEq, Repr

/-- R123. -/
structure Watch where
  kind : WatchKind
  id : BusId
  bytes : List MatchByte
  serial : BitVec 16
  seq : Nat
  window : RunTimer
deriving DecidableEq, Repr

structure Beu where
  link : LinkState
  bcast : Vector Broadcast 24
  replies : Vector Reply 16
  sched : List Scheduled
  txq : List TxFrame
  tx : TxState
  watches : Vector (Option Watch) 8
  restartId : Option BusId
deriving DecidableEq, Repr

/-! ## Measurement Engine (Chapter 7) -/

inductive MeasureKind where
  | level | current | duty | freq | count | zero
deriving DecidableEq, Repr

/-- The entry a piece of work belongs to: nest, run serial and sequence number (R17). -/
structure WorkId where
  nest : Nest
  serial : BitVec 16
  seq : Nat
deriving DecidableEq, Repr

/-- R130, Table 7-1. -/
structure Request where
  id : WorkId
  kind : MeasureKind
  input : Fin 12
  retries : Nat
  attempts : Nat
  gateLine : Fin 4
  gateEdge : EdgeSel
  corrected : Bool
  settle : Nat
  /-- samples for LEVEL, CURRENT and ZERO; the window in ms for DUTY, FREQ and COUNT -/
  amount : Nat
  low : Quad
  high : Quad
  seen : Bool
  gate : RunTimer
deriving DecidableEq, Repr

/-- R138: what the engine has gathered in the measuring phase: samples (R140), or the followed level with its rising edges,
the time it has been high so far and the moment it was last taken as high, in microseconds (R141). -/
inductive Gathered where
  | samples (sum : Int) (taken : Nat)
  | window (high : Bool) (edges : Nat) (highUs : Nat) (sinceUs : Nat)
deriving DecidableEq, Repr

/-- R138: the phase of a WORKING engine, with the time at which it ends. -/
inductive EnginePhase where
  | settling (ends : Nat)
  | measuring (starts ends : Nat) (g : Gathered)
deriving DecidableEq, Repr

/-- R138. -/
inductive Engine where
  | idle
  | working (id : WorkId) (offset : Int) (phase : EnginePhase)
deriving DecidableEq, Repr

structure Mse where
  queue : List Request
  engine : Engine
  offset : PerNest Int
  gateTimeout : PerNest Nat
  inputs : PerNest (Vector Int 12)
deriving DecidableEq, Repr

/-! ## Prompt Unit (Chapter 8) -/

inductive AnswerSet where
  | ackOnly | yesNo | yesNoRepeat
deriving DecidableEq, Repr

inductive PromptAnswer where
  | ack | yes | no | again
deriving DecidableEq, Repr

/-- R150, R151: presentation state and ticket; a ticket is held only while PRESENTED. -/
inductive Presentation where
  | waiting
  | presented (ticket : Nat)
deriving DecidableEq, Repr

/-- R150, Table 8-1. -/
structure Prompt where
  id : WorkId
  tag : Word
  code : Nat
  answers : AnswerSet
  urgent : Bool
  params : List Word
  timeout : Nat
  repeatMask : Word
  attempts : Nat
  arrival : BitVec 16
  pres : Presentation
  timer : Timer
deriving DecidableEq, Repr

/-- R151. -/
structure SysPrompt where
  code : Nat
  posting : BitVec 16
  pres : Presentation
deriving DecidableEq, Repr

structure Pru where
  queue : List Prompt
  slots : PerNest (Option SysPrompt)
  nextTicket : Nat
  arrivals : BitVec 16
deriving DecidableEq, Repr

/-! ## Port Interface (Chapter 9) -/

/-- Table 9-2. -/
inductive Code where
  | ok | wrongState | range | noSpace | notOwner | notRouted | lineLost | stale | limit
  | awaitOperator | stopped | duplicate | unknown
deriving DecidableEq, Repr

/-- Table 1-1, RUN_STATE details. -/
inductive RunDetail where
  | opened | hostHold | contactLoss | resumed | hostEnd | hostAbort | operator | fixture | stop | holdLimit | released
deriving DecidableEq, Repr

/-- Table 2-6, FIXTURE_STATE details. -/
inductive FixtureDetail where
  | fault (c : FaultCause)
  | clampStarted | closedSensed | scanStarted | scanPassed | scanFailed | scanLostCritical | scanAbandoned
  | pressureLost | unclamp | homeSensed
deriving DecidableEq, Repr

/-- R157. -/
inductive ReadyDetail where
  | system | urgent | normal
deriving DecidableEq, Repr

/-- R162, R163, R164. -/
inductive WithdrawDetail where
  | timeout | held | cancelled | ended | aborted
deriving DecidableEq, Repr

/-- R175, Table 9-4: the ten kinds of notice, each with its reference and detail. -/
inductive NoticeBody where
  | runState (s : RunState) (d : RunDetail)
  | fixtureState (s : FixtureState) (d : FixtureDetail)
  | entryDone (seq : Nat) (o : EntryOutcome)
  | claimGranted (mask : Word)
  | lineLost (k : Fin 32) (c : LossCause)
  | wear (k : Fin 32)
  | restartSeen (id : BusId)
  | txFailed (src : TxSource)
  | promptReady (d : ReadyDetail)
  | promptWithdrawn (ticket : Nat) (d : WithdrawDetail)
deriving DecidableEq, Repr

structure Notice where
  nest : Nest
  body : NoticeBody
deriving DecidableEq, Repr

/-- R171: the owner that expects an incoming block of words. -/
inductive InTarget where
  | fixtureData (n : Nest)
  | replyEntry (n : Nest) (k : Fin 16)
deriving DecidableEq, Repr

/-- R168: the three ways an owning block answers a command. -/
inductive Answer where
  | complete (c : Code) (resp : List Word)
  | sendOut (words : List Word)
  | takeIn (t : InTarget) (count : Nat)
deriving DecidableEq, Repr

/-- R168: the port states, each with what the port holds in it: the answer under way, the words left to read, the words
written so far of those expected. -/
inductive PortMode where
  | ready
  | busy (answer : Answer)
  | dataOut (left : List Word)
  | dataIn (t : InTarget) (need : Nat) (got : List Word)
deriving DecidableEq, Repr

/-- R167: the SPI transaction in progress: its direction and the slot of its next access. -/
structure Spi where
  write : Bool
  slot : Nat
deriving DecidableEq, Repr

/-- R167 to R176. -/
structure PortWindow where
  spi : Option Spi
  /-- the word the last read access returned -/
  out : Word
  params : Vector Word 8
  /-- the bits of each PARAM word that are not reserved, as the command last taken lays it out (R179, log 7) -/
  named : Vector Word 8
  resp : Vector Word 8
  mode : PortMode
  /-- answers that a port reset abandoned and that have not arrived yet (R176) -/
  late : List Answer
  code : Code
  error : Bool
  pendingCompletion : Bool
  collide : Bool
  attnEnable : Bool
  notices : List Notice
  overflow : Bool
deriving DecidableEq, Repr

/-- R179: PARAM words of which no bit is reserved. -/
def wholeParams : Vector Word 8 := Vector.replicate 8 0xFFFF#16

/-- R177. -/
inductive ResetCause where
  | powerOn | resetLine
deriving DecidableEq, Repr

/-! ## The whole part -/

/-- The state of the part, the queue of events that wait for it, and the counter of open choices (log 10). -/
structure State where
  pending : List Instr
  /-- milliseconds since the last reset; the Timebase clock is its low 32 bits (R177, log 3) -/
  ms : Nat
  resetCause : ResetCause
  stop : Bool
  ports : PerPort PortWindow
  rnc : PerNest Rnc
  fxc : PerNest Fxc
  stu : Stu
  tri : Vector TriggerLine 4
  beu : PerNest Beu
  mse : Mse
  pru : Pru
  openChoices : Nat
deriving DecidableEq, Repr

/-- The reasons a step could stop with a fault. There are none: the manual gives every event an effect in every state
("refused" in the manual is a completion code, R169, and FAULT a fixture state, R41). -/
inductive Fault where
deriving DecidableEq, Repr

/-- The reasons a step could stop without a meaning. -/
inductive Refusal where
  /-- Raised by exec for a row that has no meaning yet; safe: the model stops where the part goes on. No row is in this case. -/
  | notModelled (mnemonic : String)
deriving DecidableEq, Repr

/-! ## Values after a reset -/

/-- R1, Table 1-3, column IDLE. -/
def Rnc.idle (serial : BitVec 16) : Rnc where
  state := .idle
  serial := serial
  unit := 0#32
  plan := 0#16
  verdict := .none
  endCause := .none
  holdCount := 0
  busErrors := 0
  busLimit := 0
  openTime := none
  endTime := none
  entries := []

/-- R64. -/
def Line.unusedLine : Line where
  role := .unused
  path := .primary
  mark := false
  count := 0
  worn := false

/-- R47, R64; the sense levels are the pins' (log 5). -/
def Fxc.powerOn : Fxc where
  state := .opened
  cause := .none
  permit := false
  clampTimeout := Config.fixtureTimeoutPowerOn
  releaseTimeout := Config.fixtureTimeoutPowerOn
  clampTimer := .stopped
  releaseTimer := .stopped
  scanResult := .none
  firstFail := none
  scan := none
  lid := true
  home := true
  closed := false
  pressure := false
  lines := Vector.replicate 32 Line.unusedLine
  spares := Vector.replicate 6 none
  wearLimit := Config.wearLimitPowerOn

/-- R100: a channel after power-on. -/
def Channel.powerOn : Channel where
  owner := none
  waiter := none
  safe := 0
  stagedA := 0
  stagedB := 0
  live := 0
  mode := .direct
  source := .soft
  line := 0
  edge := .none
  phase := .a
  sweepN := 16
  startQ := 0
  pos := 0
  clamped := false
  rate := 0
  periodEnd := ⟨0, 1⟩

/-- R76. -/
def Pace.off : Pace where
  period := 0
  timer := .stopped

/-- R73. -/
def TriggerLine.powerOn : TriggerLine where
  input := .low
  filtered := .low
  change := none
  filter := Config.filterPowerOn

/-- R129. -/
def Broadcast.cleared : Broadcast where
  id := 0#11
  len := 0
  bytes := Vector.replicate 8 0#8
  period := Config.broadcastPeriodReset
  enabled := false
  linked := none
  timer := .stopped

/-- R129. -/
def Reply.cleared : Reply where
  matchId := 0#11
  matchByte := none
  replyId := 0#11
  buf0 := ⟨0, Vector.replicate 8 0#8⟩
  buf1 := ⟨0, Vector.replicate 8 0#8⟩
  delay := 0
  defer := 1
  reservation := .none
  oneShot := false
  phase := .zero
  matchCount := 0
  replyCount := 0
  dropCount := 0

/-- R129. -/
def Beu.cleared : Beu where
  link := .off
  bcast := Vector.replicate 24 Broadcast.cleared
  replies := Vector.replicate 16 Reply.cleared
  sched := []
  txq := []
  tx := .idle
  watches := Vector.replicate 8 none
  restartId := none

/-- R149. -/
def Mse.powerOn : Mse where
  queue := []
  engine := .idle
  offset := ⟨0, 0⟩
  gateTimeout := ⟨Config.gateTimeoutPowerOn, Config.gateTimeoutPowerOn⟩
  inputs := ⟨Vector.replicate 12 0, Vector.replicate 12 0⟩

/-- R166. -/
def Pru.cleared : Pru where
  queue := []
  slots := ⟨none, none⟩
  nextTicket := 1
  arrivals := 0#16

/-- R177; the transaction and the last word shifted out are log 20 and log 24. -/
def PortWindow.powerOn : PortWindow where
  spi := none
  out := 0#16
  params := Vector.replicate 8 0#16
  named := wholeParams
  resp := Vector.replicate 8 0#16
  mode := .ready
  late := []
  code := .ok
  error := false
  pendingCompletion := false
  collide := false
  attnEnable := false
  notices := []
  overflow := false

/-- The part right after power-on, with the input pins at rest (log 5, log 20). -/
def State.reset : State where
  pending := []
  ms := 0
  resetCause := .powerOn
  stop := false
  ports := ⟨PortWindow.powerOn, PortWindow.powerOn, PortWindow.powerOn⟩
  rnc := ⟨Rnc.idle 0#16, Rnc.idle 0#16⟩
  fxc := ⟨Fxc.powerOn, Fxc.powerOn⟩
  stu := ⟨Vector.replicate 16 Channel.powerOn, ⟨Pace.off, Pace.off⟩⟩
  tri := Vector.replicate 4 TriggerLine.powerOn
  beu := ⟨Beu.cleared, Beu.cleared⟩
  mse := Mse.powerOn
  pru := Pru.cleared
  openChoices := 0

end Sys2Proof.Machine
end

