-- ==== Sys2Proof/Machine/Operands.lean ====
section
/-! DEFINITION. Operand forms: bit fields of the words a master writes, numbers out of range, the enumerations of Table 10-4
read from a word, and 32-bit quantities. -/

namespace Sys2Proof.Machine

/-- Bits lo+width-1 : lo of a word (10_formats.md). Bits outside every field a rule reads are reserved and ignored (R179). -/
def bitField (w : Word) (lo width : Nat) : Nat := w.toNat / 2 ^ lo % 2 ^ width

/-- A flag: set when its bit is 1 (10_formats.md). -/
def flagBit (w : Word) (k : Nat) : Bool := w.getLsbD k

/-- The bits of a word that the fields (lowest bit, width) occupy; the others are reserved (R179). -/
def namedBits (fields : List (Nat × Nat)) : Word :=
  fields.foldr (fun x m => m ||| (BitVec.allOnes 16 >>> (16 - x.2)) <<< x.1) 0#16

/-- R179, Tables 10-8 and 10-9: the bits of the eight PARAM words that a command's tables name. A word that no table packs is whole,
but for the wait flag of CLAIM CHANNELS and the set-or-clear flag of SET RESTART IDENTIFIER, which are bit 0 (log 8). -/
def paramBits : Instr → Vector Word 8
  | .postVerdict _ => wholeParams.set 2 (namedBits [(0, 1)])
  | .claimChannels _ | .setRestartIdentifier _ | .readReplyEntry _ => wholeParams.set 1 (namedBits [(0, 1)])
  | .writeBroadcastEntry _ =>
    ((wholeParams.set 0 (namedBits [(0, 5), (8, 1), (9, 1)])).set 1 (namedBits [(0, 11), (12, 4)])).set 7 (namedBits [(0, 3), (8, 4)])
  | .armReply _ => wholeParams.set 1 (namedBits [(0, 3), (8, 1)])
  | .armWatch _ =>
    ((wholeParams.set 1 (namedBits [(0, 11), (12, 2), (15, 1)])).set 2 (namedBits [(0, 8), (8, 3)])).set 3 (namedBits [(0, 8), (8, 3)])
  | .requestMeasurement _ => wholeParams.set 1 (namedBits [(0, 4), (4, 3), (8, 2), (10, 2), (12, 2), (15, 1)])
  | .postPrompt _ => (wholeParams.set 1 (namedBits [(0, 12), (12, 2), (15, 1)])).set 2 (namedBits [(0, 10), (12, 3)])
  | _ => wholeParams

/-- R180: a 32-bit quantity from its two words, the high word first. -/
def quadOf (hi lo : Word) : Quad := hi ++ lo

/-- R180. -/
def highWord (q : Quad) : Word := q.extractLsb' 16 16
/-- R180. -/
def lowWord (q : Quad) : Word := q.extractLsb' 0 16

/-- A number used as an index, or none where it is out of range. -/
def index? (n x : Nat) : Option (Fin n) := if h : x < n then some ⟨x, h⟩ else none

/-- The two bytes of a word, the lower-numbered in bits 15:8 (Table 10-8). -/
def bytesOf (w : Word) : List Byte := [w.extractLsb' 8 8, w.extractLsb' 0 8]

/-- Two payload bytes as one word (Table 10-8, R109: high byte first). -/
def wordOf (hi lo : Byte) : Word := hi ++ lo

/-- Eight payload bytes from four words, two per word (Table 10-8). -/
def payloadOf (w0 w1 w2 w3 : Word) : Vector Byte 8 :=
  #v[w0.extractLsb' 8 8, w0.extractLsb' 0 8, w1.extractLsb' 8 8, w1.extractLsb' 0 8,
     w2.extractLsb' 8 8, w2.extractLsb' 0 8, w3.extractLsb' 8 8, w3.extractLsb' 0 8]

/-- The nest a nest parameter names: 0 for A, 1 for B (Table 10-4). -/
def nestOfParam (w : Word) : Option Nest :=
  match w.toNat with
  | 0 => some .a
  | 1 => some .b
  | _ => none

/-- A channel mask names channel c when its bit c is 1 (00_scope.md). -/
def inMask (m : Word) (c : Fin 16) : Bool := m.getLsbD c.val

/-- The channel mask of the channels for which f holds. -/
def maskOf (f : Fin 16 → Bool) : Word :=
  (List.finRange 16).foldr (fun c m => if f c then m ||| BitVec.twoPow 16 c.val else m) 0#16

/-- R91, Table 10-4. -/
def chanModeOf : Nat → Option ChanMode
  | 0 => some .direct
  | 1 => some .latched
  | 2 => some .alternate
  | 3 => some .sweep
  | _ => none

/-- R91, Table 10-4. -/
def commitSourceOf : Nat → Option CommitSource
  | 0 => some .soft
  | 1 => some .line
  | 2 => some .pace
  | _ => none

/-- R75, Table 10-4. -/
def edgeSelOf : Nat → Option EdgeSel
  | 0 => some .none
  | 1 => some .rising
  | 2 => some .falling
  | 3 => some .both
  | _ => none

/-- R103, Table 10-4. -/
def linkStateOf : Nat → Option LinkState
  | 0 => some .off
  | 1 => some .listen
  | 2 => some .active
  | _ => none

/-- R112, Table 10-4. -/
def reservationOf : Nat → Option Reservation
  | 0 => some .none
  | 1 => some .buffer0
  | 2 => some .buffer1
  | 3 => some .alternate
  | 4 => some .defer
  | 5 => some .silent
  | _ => none

/-- R131, Table 10-4: the five kinds a request may name. -/
def measureKindOf : Nat → Option MeasureKind
  | 0 => some .level
  | 1 => some .current
  | 2 => some .duty
  | 3 => some .freq
  | 4 => some .count
  | _ => none

/-- R152, Table 10-4. -/
def answerSetOf : Nat → Option AnswerSet
  | 0 => some .ackOnly
  | 1 => some .yesNo
  | 2 => some .yesNoRepeat
  | _ => none

/-- R158, Table 10-4. -/
def promptAnswerOf : Nat → Option PromptAnswer
  | 1 => some .ack
  | 2 => some .yes
  | 3 => some .no
  | 4 => some .again
  | _ => none

/-- R22, Table 10-9: an outcome a station may post. -/
def verdictOutcomeOf : Nat → Option EntryOutcome
  | 1 => some .pass
  | 2 => some .fail
  | _ => none

/-- R51, R63: a role with its argument in range, or none. The argument of the other roles is ignored. -/
def roleOf (role arg : Nat) : Option Role :=
  match role with
  | 0 => some .unused
  | 1 => (index? 16 arg).map .stim
  | 2 => (index? 12 arg).map .sense
  | 3 => some .bus
  | 4 => some .supply
  | _ => none

/-- R63: a defined path, whose spare number is in range for SPARE(s). -/
def pathOf (path spare : Nat) : Option Path :=
  match path with
  | 0 => some .primary
  | 1 => (index? 6 spare).map .spare
  | 2 => some .lost
  | _ => none

/-- R91: the sweep periods. -/
def sweepPeriodOk (n : Nat) : Bool := n = 4 || n = 8 || n = 16 || n = 32 || n = 64

/-- R80: the top of the value range of a channel. -/
def chanTop (c : Fin 16) : Nat :=
  match chanKind c with
  | .level => 20000
  | .pulse => 50000
  | .switch => 1

end Sys2Proof.Machine
end

