-- ==== Sys2Proof/Machine/Formats.lean ====
section
/-! DEFINITION. The words the part returns: the numbers of Tables 2-5, 10-2 and 10-4, notice words, and the layouts of the
streams and packed responses (Tables 10-5 to 10-11). A reserved bit reads 0 (R179). -/

namespace Sys2Proof.Machine

/-- A word built from fields (value, lowest bit, width). -/
def packWord (fields : List (Nat × Nat × Nat)) : Word :=
  BitVec.ofNat 16 ((fields.map fun f => f.1 % 2 ^ f.2.2 * 2 ^ f.2.1).sum)

def wordOfNat (n : Nat) : Word := BitVec.ofNat 16 n

/-- Table 10-4: a flag is 1 for set. -/
def flagNat (b : Bool) : Nat := if b then 1 else 0

def Nest.num : Nest → Nat
  | .a => 0
  | .b => 1

/-- R178. -/
def portNum : Port → Nat
  | .stationA => 0
  | .stationB => 1
  | .operator => 2

/-- Table 10-4: channel owner, waiter. -/
def ownerNum : Option Nest → Nat
  | none => 0
  | some .a => 1
  | some .b => 2

def RunState.num : RunState → Nat
  | .idle => 0
  | .active => 1
  | .held => 2
  | .ended => 3
  | .aborted => 4

def Verdict.num : Verdict → Nat
  | .none => 0
  | .pass => 1
  | .fail => 2
  | .incomplete => 3
  | .aborted => 4

def EndCause.num : EndCause → Nat
  | .none => 0
  | .hostEnd => 1
  | .hostAbort => 2
  | .operator => 3
  | .fixture => 4
  | .holdLimit => 5
  | .stop => 6

def EntryKind.num : EntryKind → Nat
  | .measure => 1
  | .calibration => 2
  | .prompt => 3
  | .busExpect => 4
  | .busForbid => 5
  | .note => 6

def EntryOutcome.num : EntryOutcome → Nat
  | .pending => 0
  | .pass => 1
  | .fail => 2
  | .noResult => 3

def EntryDetail.num : EntryDetail → Nat
  | .none => 0
  | .inLimits => 1
  | .low => 2
  | .high => 3
  | .answerYes => 4
  | .answerNo => 5
  | .answerAck => 6
  | .seen => 7
  | .absent => 8
  | .cancelled => 9
  | .ended => 10
  | .aborted => 11
  | .timeout => 12
  | .gateTimeout => 13
  | .lineLost => 14
  | .withdrawn => 15

def RunDetail.num : RunDetail → Nat
  | .opened => 1
  | .hostHold => 2
  | .contactLoss => 3
  | .resumed => 4
  | .hostEnd => 5
  | .hostAbort => 6
  | .operator => 7
  | .fixture => 8
  | .stop => 9
  | .holdLimit => 10
  | .released => 11

def FixtureState.num : FixtureState → Nat
  | .opened => 0
  | .closing => 1
  | .clamped => 2
  | .scanning => 3
  | .contacted => 4
  | .releasing => 5
  | .fault => 6

/-- Table 2-5. -/
def FaultCause.num : FaultCause → Nat
  | .none => 0
  | .clampTimeout => 1
  | .releaseTimeout => 2
  | .lidOpened => 3
  | .clampLost => 4
  | .stop => 5

def FixtureDetail.num : FixtureDetail → Nat
  | .fault c => c.num
  | .clampStarted => 8
  | .closedSensed => 9
  | .scanStarted => 10
  | .scanPassed => 11
  | .scanFailed => 12
  | .scanLostCritical => 13
  | .scanAbandoned => 14
  | .pressureLost => 15
  | .unclamp => 16
  | .homeSensed => 17

def ScanResult.num : ScanResult → Nat
  | .none => 0
  | .passed => 1
  | .failed => 2
  | .lostCritical => 3
  | .abandoned => 4

def LossCause.num : LossCause → Nat
  | .noSpare => 1
  | .spareFailed => 2
  | .sparePathFailed => 3

def ReadyDetail.num : ReadyDetail → Nat
  | .system => 1
  | .urgent => 2
  | .normal => 3

def WithdrawDetail.num : WithdrawDetail → Nat
  | .timeout => 1
  | .held => 2
  | .cancelled => 3
  | .ended => 4
  | .aborted => 5

def Role.num : Role → Nat
  | .unused => 0
  | .stim _ => 1
  | .sense _ => 2
  | .bus => 3
  | .supply => 4

/-- Table 10-7: the argument, 0 where the role has none. -/
def Role.arg : Role → Nat
  | .stim c => c.val
  | .sense k => k.val
  | .unused | .bus | .supply => 0

def Path.num : Path → Nat
  | .primary => 0
  | .spare _ => 1
  | .lost => 2

/-- Table 10-7: the spare number, 0 unless SPARE. -/
def Path.spareNum : Path → Nat
  | .spare s => s.val
  | .primary | .lost => 0

def ChanMode.num : ChanMode → Nat
  | .direct => 0
  | .latched => 1
  | .alternate => 2
  | .sweep => 3

def CommitSource.num : CommitSource → Nat
  | .soft => 0
  | .line => 1
  | .pace => 2

def EdgeSel.num : EdgeSel → Nat
  | .none => 0
  | .rising => 1
  | .falling => 2
  | .both => 3

def AltPhase.num : AltPhase → Nat
  | .a => 0
  | .b => 1

def Level.num : Level → Nat
  | .low => 0
  | .high => 1

def LinkState.num : LinkState → Nat
  | .off => 0
  | .listen => 1
  | .active => 2

def Reservation.num : Reservation → Nat
  | .none => 0
  | .buffer0 => 1
  | .buffer1 => 2
  | .alternate => 3
  | .defer => 4
  | .silent => 5

def BufferSel.num : BufferSel → Nat
  | .zero => 0
  | .one => 1

def AnswerSet.num : AnswerSet → Nat
  | .ackOnly => 0
  | .yesNo => 1
  | .yesNoRepeat => 2

def ResetCause.num : ResetCause → Nat
  | .powerOn => 0
  | .resetLine => 1

def RunTimer.num : RunTimer → Nat
  | .stopped => 0
  | .running _ => 1
  | .paused _ => 2

/-- Table 10-2. -/
def Code.num : Code → Nat
  | .ok => 0
  | .wrongState => 1
  | .range => 2
  | .noSpace => 3
  | .notOwner => 4
  | .notRouted => 5
  | .lineLost => 6
  | .stale => 7
  | .limit => 8
  | .awaitOperator => 9
  | .stopped => 10
  | .duplicate => 11
  | .unknown => 12

/-- Table 10-1: the port state. -/
def PortMode.num : PortMode → Nat
  | .ready => 0
  | .busy _ => 1
  | .dataOut _ => 2
  | .dataIn _ _ _ => 3

/-! ## Notice words (section 10.2) -/

/-- Notice kinds run from 1 to 10 in the order of Table 9-4. -/
def NoticeBody.kind : NoticeBody → Nat
  | .runState _ _ => 1
  | .fixtureState _ _ => 2
  | .entryDone _ _ => 3
  | .claimGranted _ => 4
  | .lineLost _ _ => 5
  | .wear _ => 6
  | .restartSeen _ => 7
  | .txFailed _ => 8
  | .promptReady _ => 9
  | .promptWithdrawn _ _ => 10

/-- Table 9-4, reference. -/
def NoticeBody.ref : NoticeBody → Nat
  | .runState s _ => s.num
  | .fixtureState s _ => s.num
  | .entryDone seq _ => seq
  | .claimGranted m => m.toNat
  | .lineLost k _ => k.val
  | .wear k => k.val
  | .restartSeen id => id.toNat
  | .txFailed (.broadcast k) => k.val
  | .txFailed (.reply k) => k.val
  | .promptReady _ => 0
  | .promptWithdrawn t _ => t

/-- Table 9-4, detail; NONE reads 0. -/
def NoticeBody.detail : NoticeBody → Nat
  | .runState _ d => d.num
  | .fixtureState _ d => d.num
  | .entryDone _ o => o.num
  | .claimGranted _ => 0
  | .lineLost _ c => c.num
  | .wear _ => 0
  | .restartSeen _ => 0
  | .txFailed (.broadcast _) => 1
  | .txFailed (.reply _) => 2
  | .promptReady d => d.num
  | .promptWithdrawn _ d => d.num

/-- The four NOTICE words: kind, nest, reference, detail. -/
def Notice.words (x : Notice) : List Word :=
  [wordOfNat x.body.kind, wordOfNat (Nest.num x.nest), wordOfNat x.body.ref, wordOfNat x.body.detail]

/-! ## Unit Record stream (Tables 10-5 and 10-6) -/

/-- An optional 32-bit quantity as two words; absent reads 0 (R179). -/
def optQuadWords (q : Option Quad) : List Word :=
  [highWord (q.getD 0#32), lowWord (q.getD 0#32)]

/-- Table 10-5. -/
def Rnc.headerWords (r : Rnc) : List Word :=
  [highWord r.unit, lowWord r.unit, r.plan,
   packWord [(r.state.num, 0, 3), (r.verdict.num, 4, 3), (r.endCause.num, 8, 3), (r.holdCount, 12, 3)],
   wordOfNat r.busErrors, wordOfNat r.busLimit] ++ optQuadWords r.openTime ++ optQuadWords r.endTime ++
  [wordOfNat r.entries.length, packWord [(flagNat r.openTime.isSome, 0, 1), (flagNat r.endTime.isSome, 1, 1)]]

/-- Table 10-6; seq is the entry's sequence number. -/
def Entry.words (seq : Nat) (e : Entry) : List Word :=
  [packWord [(seq, 0, 8), (e.kind.num, 8, 3), (e.outcome.num, 12, 2)], e.tag,
   packWord [(e.detail.num, 0, 4), (e.attempts, 4, 3), (flagNat e.value.isSome, 8, 1), (flagNat e.limits.isSome, 9, 1),
     (flagNat e.done.isSome, 10, 1)]] ++
  optQuadWords e.value ++ optQuadWords (e.limits.map (·.1)) ++ optQuadWords (e.limits.map (·.2)) ++ optQuadWords e.done

/-- R24: the 12 header words, then 11 words for each entry in record order. -/
def Rnc.stream (r : Rnc) : List Word :=
  r.headerWords ++ (r.entries.zipIdx 1).flatMap fun x => x.1.words x.2

/-! ## Fixture data (Table 3-3, Table 10-7) -/

def natWords (n : Nat) : List Word := [highWord (BitVec.ofNat 32 n), lowWord (BitVec.ofNat 32 n)]

/-- Table 10-7, one line. -/
def Line.words (l : Line) : List Word :=
  [packWord [(l.role.num, 0, 3), (l.role.arg, 8, 4)],
   packWord [(l.path.num, 0, 2), (l.path.spareNum, 4, 3), (flagNat l.mark, 8, 1), (flagNat l.worn, 9, 1)]] ++
  natWords l.count

/-- Table 10-7, one spare: 0xFFFF for FREE. -/
def spareWord (x : Option (Fin 32)) : Word :=
  match x with
  | none => 0xFFFF#16
  | some k => wordOfNat k.val

/-- R61: the 138 words in the order of Table 3-3. -/
def Fxc.dataWords (f : Fxc) : List Word :=
  [1#16, 32#16] ++ natWords f.wearLimit ++ f.lines.toList.flatMap Line.words ++ f.spares.toList.map spareWord

/-! ## Reply entries and broadcast entries (Table 10-8) -/

/-- Eight payload bytes as four words. -/
def payloadWords (v : Vector Byte 8) : List Word :=
  [wordOf v[0] v[1], wordOf v[2] v[3], wordOf v[4] v[5], wordOf v[6] v[7]]

/-- Table 10-8: DATA 0-14 of WRITE REPLY ENTRY. -/
def Reply.fieldWords (r : Reply) : List Word :=
  [wordOfNat r.matchId.toNat, packWord [((r.matchByte.getD 0#8).toNat, 0, 8), (flagNat r.matchByte.isSome, 8, 1)],
   wordOfNat r.replyId.toNat, wordOfNat r.delay, wordOfNat r.defer, wordOfNat r.buf0.len] ++ payloadWords r.buf0.bytes ++
  [wordOfNat r.buf1.len] ++ payloadWords r.buf1.bytes

/-- R113: the 19 words of READ REPLY ENTRY. -/
def Reply.stream (r : Reply) : List Word :=
  r.fieldWords ++
  [packWord [(r.reservation.num, 0, 3), (flagNat r.oneShot, 4, 1), (r.phase.num, 8, 1)],
   wordOfNat r.matchCount, wordOfNat r.replyCount, wordOfNat r.dropCount]

/-- Table 10-8: the response of READ BROADCAST ENTRY; absent optional fields read 0 (R179). -/
def Broadcast.words (now : Nat) (b : Broadcast) : List Word :=
  [packWord [(b.id.toNat, 0, 11), (b.len, 12, 4)]] ++ payloadWords b.bytes ++
  [wordOfNat b.period,
   packWord [(flagNat b.enabled, 0, 1), (flagNat b.linked.isSome, 1, 1), (flagNat (b.timer != .stopped), 2, 1),
     ((b.linked.map (·.offset)).getD 0, 4, 3), ((b.linked.map (·.chan.val)).getD 0, 8, 4)],
   match b.timer with
   | .stopped => 0#16
   | .running e => wordOfNat (e - now)]

end Sys2Proof.Machine
end

