-- ==== Sys2Proof/Machine/Flags.lean ====
section
/-! DEFINITION. The port's status: attention output, STATUS word, and how a completion, a collision and a port reset set the flags. -/

namespace Sys2Proof.Machine

/-- R173: the attention output. -/
def PortWindow.attention (w : PortWindow) : Bool :=
  (w.pendingCompletion && w.attnEnable) || !w.notices.isEmpty

/-- R172, Table 10-1: the STATUS word. -/
def PortWindow.status (w : PortWindow) : Word :=
  packWord [(w.mode.num, 0, 2), (flagNat w.error, 2, 1), (flagNat w.collide, 3, 1), (flagNat w.attention, 4, 1),
    (flagNat w.overflow, 5, 1), (w.code.num, 8, 8)]

/-- R169: RESPONSE 0-7 from the answer's words; words the answer does not use are 0. -/
def respWords (l : List Word) : Vector Word 8 := Vector.ofFn fun i => l.getD i.val 0#16

/-- R169: a completion is taken at a port. -/
def PortWindow.complete (w : PortWindow) (c : Code) (resp : List Word) : PortWindow :=
  { w with mode := .ready, code := c, error := c != .ok, resp := respWords resp, pendingCompletion := true }

/-- R170: the last word of an outgoing transfer has been read; RESPONSE keeps the word count. -/
def PortWindow.finishOut (w : PortWindow) : PortWindow :=
  { w with mode := .ready, code := .ok, error := false, pendingCompletion := true }

/-- R168 to R171: the awaited answer is taken. -/
def PortWindow.takeAnswer (w : PortWindow) (x : Answer) : PortWindow :=
  match x with
  | .complete c resp => w.complete c resp
  | .sendOut words => { w with mode := .dataOut words, resp := respWords [wordOfNat words.length], pendingCompletion := false }
  | .takeIn t n => { w with mode := .dataIn t n [], resp := respWords [wordOfNat n], pendingCompletion := false }

/-- R174. -/
def PortWindow.collision (w : PortWindow) : PortWindow := { w with collide := true }

/-- R172: what a read of STATUS does after the word is formed. -/
def PortWindow.acknowledge (w : PortWindow) : PortWindow := { w with pendingCompletion := false, collide := false }

/-- R175: a notice joins at the tail, or is dropped with OVERFLOW. -/
def PortWindow.post (w : PortWindow) (x : Notice) : PortWindow :=
  if w.notices.length < Config.noticeCap then { w with notices := w.notices ++ [x] } else { w with overflow := true }

/-- R175: NOTICE POP. -/
def PortWindow.pop (w : PortWindow) : PortWindow :=
  match w.notices with
  | [] => w
  | _ :: rest => { w with notices := rest, overflow := w.overflow && !rest.isEmpty }

/-- R176: what a port reset sets. The answer the port awaited is still on its way and will be discarded. -/
def PortWindow.portReset (w : PortWindow) : PortWindow :=
  { w with
    mode := .ready
    late := match w.mode with
      | .busy x => w.late ++ [x]
      | .ready | .dataOut _ | .dataIn _ _ _ => w.late
    params := Vector.replicate 8 0#16
    named := wholeParams
    resp := Vector.replicate 8 0#16
    code := .ok
    error := false
    pendingCompletion := false
    collide := false
    notices := []
    overflow := false }

/-- R177: the RESET line sets a port as a port reset does, clears attention-enable, and drops every command under way. -/
def PortWindow.lineReset (w : PortWindow) : PortWindow :=
  { w.portReset with late := [], attnEnable := false }

end Sys2Proof.Machine
end

