-- ==== Sys2Proof/Machine/Ops.lean ====
section
/-! DEFINITION. The shared operations: access to each block's state, timers, notices, an access of an SPI transaction, and the
taking of a command (R168). -/

namespace Sys2Proof.Machine

/-- What a step answers. -/
abbrev Result := Host.Outcome State Fault Refusal

/-! ## Parts of the state -/

def State.port (s : State) (p : Port) : PortWindow := s.ports.get p
def State.run (s : State) (n : Nest) : Rnc := s.rnc.get n
def State.fix (s : State) (n : Nest) : Fxc := s.fxc.get n
def State.bus (s : State) (n : Nest) : Beu := s.beu.get n

def State.setPort (s : State) (p : Port) (w : PortWindow) : State := { s with ports := s.ports.set p w }
def State.setRun (s : State) (n : Nest) (r : Rnc) : State := { s with rnc := s.rnc.set n r }
def State.setFix (s : State) (n : Nest) (f : Fxc) : State := { s with fxc := s.fxc.set n f }
def State.setBus (s : State) (n : Nest) (b : Beu) : State := { s with beu := s.beu.set n b }
def State.setStu (s : State) (x : Stu) : State := { s with stu := x }
def State.setMse (s : State) (x : Mse) : State := { s with mse := x }
def State.setPru (s : State) (x : Pru) : State := { s with pru := x }
def State.setTri (s : State) (x : Vector TriggerLine 4) : State := { s with tri := x }

/-- R177: the Timebase clock, 32 bits, which wraps. -/
def State.clock (s : State) : Quad := BitVec.ofNat 32 s.ms

/-- R1: a nest's run is ACTIVE. -/
def State.active (s : State) (n : Nest) : Bool := (s.run n).state == .active

/-- A run is open while it is ACTIVE or HELD (R1). -/
def RunState.isOpen : RunState → Bool
  | .active | .held => true
  | .idle | .ended | .aborted => false

/-! ## Timers -/

/-- A running timer that has reached its expiry. A stopped timer does not expire (R32, R39). -/
def Timer.due (t : Timer) (now : Nat) : Bool :=
  match t with
  | .stopped => false
  | .running e => e ≤ now

/-- A running timer that has reached its expiry; a stopped or paused one does not expire (R76, R125, R136). -/
def RunTimer.due (t : RunTimer) (now : Nat) : Bool :=
  match t with
  | .stopped | .paused _ => false
  | .running e => e ≤ now

/-- A hold: a RUNNING timer becomes PAUSED with the time that remained (R76, R126, R136). -/
def RunTimer.pause (t : RunTimer) (now : Nat) : RunTimer :=
  match t with
  | .running e => .paused (e - now)
  | .stopped => .stopped
  | .paused l => .paused l

/-- A resumption: a PAUSED timer becomes RUNNING with its expiry the remaining time from now (R76, R126, R136). -/
def RunTimer.resume (t : RunTimer) (now : Nat) : RunTimer :=
  match t with
  | .paused l => .running (now + l)
  | .stopped => .stopped
  | .running e => .running e

/-- The remaining time is 0, so the timer expires in the event that makes it RUNNING again (R76, R126, R136). -/
def RunTimer.spent (t : RunTimer) : Bool := t == .paused 0

/-- The time left to expiry, or the remaining time; 0 when STOPPED (R79). -/
def RunTimer.left (t : RunTimer) (now : Nat) : Nat :=
  match t with
  | .stopped => 0
  | .running e => e - now
  | .paused l => l

/-- Counts of 16 bits that stop at 65535 (R23, R110). -/
def sat16 (n : Nat) : Nat := min 65535 (n + 1)

/-! ## Notices (R175) -/

def State.post (s : State) (p : Port) (x : Notice) : State := s.setPort p ((s.port p).post x)

/-- A notice to a nest's station port; its nest field names that port's nest. -/
def State.postStation (s : State) (n : Nest) (b : NoticeBody) : State := s.post n.port ⟨n, b⟩

/-- A notice to the Operator Port; its nest field names the nest of the prompt concerned. -/
def State.postOperator (s : State) (n : Nest) (b : NoticeBody) : State := s.post .operator ⟨n, b⟩

/-- Notices one event posts to one station port, in order. -/
def State.postAll (s : State) (n : Nest) (l : List NoticeBody) : State := l.foldl (fun s b => s.postStation n b) s

/-! ## Accesses of an SPI transaction (R167) -/

/-- After an access the slot advances by one, but slot 18 (DATA) and slot 23 (NOTICE POP) do not advance. -/
def slotAfter (k : Nat) : Nat := if k = 18 || k = 23 then k else k + 1

/-- A write access to slot k: the word written is the next one of a write transaction that has reached slot k. -/
def PortWindow.writesAt (w : PortWindow) (k : Nat) : Bool := w.spi == some ⟨true, k⟩

/-- The transaction after an access at slot k. -/
def PortWindow.step (w : PortWindow) (write : Bool) (k : Nat) : PortWindow := { w with spi := some ⟨write, slotAfter k⟩ }

/-- A write access at slot k of a port: the slot advances, then f acts. Where no write transaction of the port stands at slot k
(none was begun, its header named another slot, or a slot past 24, which is ignored), the word is no access to slot k. -/
def State.writeAccess (s : State) (p : Port) (k : Nat) (f : State → State) : State :=
  if (s.port p).writesAt k then f (s.setPort p ((s.port p).step true k)) else s

/-! ## Taking a command (R168, R169, R174) -/

/-- Table 9-3: the ports at which a command is permitted. -/
inductive Permitted where
  | station | operator | anyPort
deriving DecidableEq, Repr

def Permitted.at (k : Permitted) (p : Port) : Bool :=
  match k, p with
  | .station, .stationA | .station, .stationB | .operator, .operator | .anyPort, _ => true
  | .station, .operator | .operator, .stationA | .operator, .stationB => false

/-- A COMMAND word written at a port (slot 0). In READY a permitted command is taken: any pending completion is cleared, the
owning block takes it with the PARAM words as they stand and gives the answer, and the port is BUSY until that answer is taken
(COMMAND_ANSWER); named gives the bits of the PARAM words that the command's tables name (R179, log 7). A command not permitted
completes with UNKNOWN. In any other port state it only sets COLLIDE. -/
def State.takeCommand (s : State) (p : Port) (k : Permitted) (body : State → State × Answer)
    (named : Vector Word 8 := wholeParams) : State :=
  s.writeAccess p 0 fun s =>
    match (s.port p).mode with
    | .ready =>
      if k.at p then
        let r := body (s.setPort p { s.port p with pendingCompletion := false, named := named })
        r.1.setPort p { r.1.port p with mode := .busy r.2 }
      else s.setPort p ((s.port p).complete .unknown [])
    | .busy _ | .dataOut _ | .dataIn _ _ _ => s.setPort p (s.port p).collision

/-- A command of a station port, which addresses that port's own nest (R1). -/
def State.stationCommand (s : State) (p : Port) (body : Nest → State → State × Answer)
    (named : Vector Word 8 := wholeParams) : State :=
  s.takeCommand p .station (named := named) fun s =>
    match p.nest? with
    | some n => body n s
    | none => (s, .complete .unknown [])

/-- PARAM k of a port. -/
def State.param (s : State) (p : Port) (k : Fin 8) : Word := (s.port p).params[k]

/-- A 32-bit parameter in PARAM k and k + 1 (R180). -/
def State.param32 (s : State) (p : Port) (k l : Fin 8) : Quad := quadOf (s.param p k) (s.param p l)

/-! ## Answers of an owning block -/

/-- A refusal changes no state and has only its code (R169). -/
def refuse (s : State) (c : Code) : State × Answer := (s, .complete c [])

/-- A completion with OK and response words. -/
def accept (s : State) (resp : List Word) : State × Answer := (s, .complete .ok resp)

/-- Commands permitted at every port that name a nest at the Operator Port and address the own nest at a station port
(R25, R148): the nest, or none where the parameter names none. -/
def State.namedNest (s : State) (p : Port) : Option Nest :=
  match p.nest? with
  | some n => some n
  | none => nestOfParam (s.param p 0)

end Sys2Proof.Machine
end

