-- ==== Sys2Proof/Machine/Record.lean ====
section
/-! DEFINITION. The Unit Record: creating and settling entries (Chapter 1, sections 1.7 to 1.9). -/

namespace Sys2Proof.Machine

/-- The entry with a sequence number, which is its position plus one (R15). -/
def Rnc.entry? (r : Rnc) (seq : Nat) : Option Entry := if seq = 0 then none else r.entries[seq - 1]?

def Rnc.setEntry (r : Rnc) (seq : Nat) (e : Entry) : Rnc := { r with entries := r.entries.set (seq - 1) e }

def Entry.isPending (e : Entry) : Bool := e.outcome == .pending

/-- R18: the number of PENDING entries. -/
def Rnc.pendingCount (r : Rnc) : Nat := r.entries.countP Entry.isPending

/-- R17: the entry is appended with the next sequence number. -/
def Rnc.append (r : Rnc) (e : Entry) : Rnc := { r with entries := r.entries ++ [e] }

/-- The sequence number the next entry takes (R15). -/
def Rnc.nextSeq (r : Rnc) : Nat := r.entries.length + 1

/-- R17: a PENDING entry at its creation. -/
def Entry.created (kind : EntryKind) (tag : Word) (limits : Option (Quad × Quad)) : Entry where
  kind := kind
  tag := tag
  outcome := .pending
  detail := .none
  attempts := 1
  value := none
  limits := limits
  done := none

/-- R17: the two checks that come before the owning block's own, on the run state and the entry count. -/
def State.creating (s : State) (n : Nest) (own : State × Answer) : State × Answer :=
  if !(s.run n).state.isOpen then refuse s .wrongState
  else if Config.recordCap ≤ (s.run n).entries.length then refuse s .noSpace
  else own

/-- What an owner reports when it has finished a piece of work (R19). -/
structure WorkResult where
  outcome : EntryOutcome
  detail : EntryDetail
  attempts : Nat
  value : Option Quad
deriving DecidableEq, Repr

/-- R19: the entry takes the outcome, detail, value and attempts, and its done time is the clock. -/
def Entry.settle (e : Entry) (x : WorkResult) (clock : Quad) : Entry :=
  { e with outcome := x.outcome, detail := x.detail, attempts := x.attempts, value := x.value, done := some clock }

/-- The PENDING entry of the current run that a piece of work names, or none (R19, R20). -/
def Rnc.pendingEntry? (r : Rnc) (serial : BitVec 16) (seq : Nat) : Option Entry :=
  if serial = r.serial then (r.entry? seq).filter Entry.isPending else none

/-- R19: a result settles its entry and posts ENTRY_DONE, or is discarded. -/
def State.result (s : State) (id : WorkId) (x : WorkResult) : State :=
  match (s.run id.nest).pendingEntry? id.serial id.seq with
  | none => s
  | some e =>
    (s.setRun id.nest ((s.run id.nest).setEntry id.seq (e.settle x s.clock))).postStation id.nest (.entryDone id.seq x.outcome)

/-- R20: a progress report changes the attempts of a PENDING entry of the current run, or is discarded. -/
def State.progress (s : State) (id : WorkId) (attempts : Nat) : State :=
  match (s.run id.nest).pendingEntry? id.serial id.seq with
  | none => s
  | some e => s.setRun id.nest ((s.run id.nest).setEntry id.seq { e with attempts := attempts })

/-- R23: an errored frame is counted while the run is ACTIVE or HELD. -/
def State.countBusError (s : State) (n : Nest) : State :=
  if (s.run n).state.isOpen then s.setRun n { s.run n with busErrors := sat16 (s.run n).busErrors } else s

/-- R6 step 3, R21: the RNC itself settles an entry with NO_RESULT; its value is absent. -/
def Entry.noResult (e : Entry) (d : EntryDetail) (clock : Quad) : Entry :=
  { e with outcome := .noResult, detail := d, value := none, done := some clock }

/-- R6 step 3. -/
def Rnc.settlePending (r : Rnc) (d : EntryDetail) (clock : Quad) : Rnc :=
  { r with entries := r.entries.map fun e => if e.isPending then e.noResult d clock else e }

/-- R8: the overall verdict of an ended run. -/
def Rnc.computeVerdict (r : Rnc) : Verdict :=
  if r.entries.any (·.outcome == .fail) || r.busLimit < r.busErrors then .fail
  else if r.entries.any (·.outcome == .noResult) || r.entries.isEmpty then .incomplete
  else .pass

end Sys2Proof.Machine
end

