-- ==== Sys2Proof/Machine/Outputs.lean ====
section
/-! DEFINITION. What the part drives, derived from its state: fixture outputs and relays (R28, R49), the routed flag and the
outputs of the stimulus channels (R82, R83), the pulse pins (R84), and the link's acknowledgement (R102). -/

namespace Sys2Proof.Machine

/-! ## Fixture outputs -/

/-- Table 2-2. -/
def FixtureState.clampDrive : FixtureState → Bool
  | .closing | .clamped | .scanning | .contacted => true
  | .opened | .releasing | .fault => false

/-- R28: the supply relay is on exactly while the fixture is CONTACTED. -/
def FixtureState.supplyRelay (s : FixtureState) : Bool := s == .contacted

/-- R48: a line whose role is not UNUSED. -/
def Line.used (l : Line) : Bool := l.role != .unused

/-- R48: a line whose role is BUS or SUPPLY. -/
def Line.critical (l : Line) : Bool :=
  match l.role with
  | .bus | .supply => true
  | .unused | .stim _ | .sense _ => false

/-- R53: the line and path a scan now connects to the continuity circuit. -/
def Scan.connected (sc : Scan) : Option (Fin 32 × Path) :=
  match sc.target with
  | .settle | .finished => none
  | .line k => some (k, sc.paths[k])
  | .spare k s => some (k, .spare s)

/-- R49: the primary relay of a line is closed. -/
def Fxc.primaryRelay (f : Fxc) (k : Fin 32) : Bool :=
  match f.state with
  | .contacted => f.lines[k].used && f.lines[k].path == .primary
  | .scanning => (f.scan.bind Scan.connected) == some (k, .primary)
  | .opened | .closing | .clamped | .releasing | .fault => false

/-- R49: a spare relay is closed. -/
def Fxc.spareRelay (f : Fxc) (s : Fin 6) : Bool :=
  match f.state with
  | .contacted => (List.finRange 32).any fun k => f.lines[k].used && f.lines[k].path == .spare s
  | .scanning => ((f.scan.bind Scan.connected).map (·.2)) == some (.spare s)
  | .opened | .closing | .clamped | .releasing | .fault => false

/-! ## Stimulus channels -/

/-- R82: the live value while the channel has an owner whose run is ACTIVE, the safe value in every other case. -/
def Channel.output (ch : Channel) (active : Nest → Bool) : Nat :=
  match ch.owner with
  | some n => if active n then ch.live else ch.safe
  | none => ch.safe

def State.output (s : State) (c : Fin 16) : Nat := s.stu.chans[c].output s.active

/-- R82: a channel as one nest sees it: its output for the owner nest, the safe value for the other nest or where unclaimed. -/
def State.seenBy (s : State) (n : Nest) (c : Fin 16) : Nat :=
  if s.stu.chans[c].owner = some n then s.output c else s.stu.chans[c].safe

/-- R83: the nest's map gives the channel to a line whose path is not LOST. -/
def Fxc.carries (f : Fxc) (c : Fin 16) : Bool :=
  (List.finRange 32).any fun k => f.lines[k].role == .stim c && f.lines[k].path != .lost

/-- R83: the routed flag. -/
def State.routed (s : State) (c : Fin 16) : Bool :=
  match s.stu.chans[c].owner with
  | some n => (s.fix n).carries c
  | none => false

/-- R83, R49: the stimulus output of a channel reaches the cluster in a nest. -/
def State.reachesCluster (s : State) (n : Nest) (c : Fin 16) : Bool :=
  s.stu.chans[c].owner == some n && (s.fix n).carries c && (s.fix n).state == .contacted

/-- R84: the moment one period after m at a rate r, in lowest terms; a period is 10000 ÷ r ms. -/
def Moment.addPeriod (m : Moment) (r : Nat) : Moment :=
  let num := m.num * r + 10000 * m.den
  let den := m.den * r
  ⟨num / Nat.gcd num den, den / Nat.gcd num den⟩

/-- The moment lies before the end of the millisecond the clock shows, so it can have been reached. -/
def Moment.reached (m : Moment) (now : Nat) : Bool := m.num < (now + 1) * m.den

/-- R84: the pulse pin at a whole millisecond: each period begins with its high half, and the halves are equal;
at rate 0 the pin is held low. -/
def Channel.pinHigh (ch : Channel) (now : Nat) : Bool :=
  0 < ch.rate && now * ch.periodEnd.den * ch.rate + 5000 * ch.periodEnd.den < ch.periodEnd.num * ch.rate

/-! ## Bus link -/

/-- R102: in ACTIVE the link acknowledges every GOOD frame; in LISTEN and OFF none; an errored frame in no state. -/
def LinkState.acknowledges (l : LinkState) (r : RxResult) : Bool := l == .active && r == .good

end Sys2Proof.Machine
end

