-- ==== Sys2Proof/Machine/Stimulus.lean ====
section
/-! DEFINITION. The Stimulus Unit: claims and handover, commit events, pulse generators, pace timers and the channel commands
(Chapters 4 and 5), but for what trigger edges and run-state reports do, which Machine/Trigger.lean and Machine/Run.lean call here. -/

namespace Sys2Proof.Machine

/-! ## Channel records -/

def State.chan (s : State) (c : Fin 16) : Channel := s.stu.chans[c]

/-- Every channel record changed by f. -/
def State.mapChans (s : State) (f : Fin 16 → Channel → Channel) : State :=
  s.setStu { s.stu with chans := Vector.ofFn fun c => f c (s.chan c) }

def State.setChan (s : State) (c : Fin 16) (ch : Channel) : State :=
  s.setStu { s.stu with chans := s.stu.chans.set c ch }

def State.setPace (s : State) (n : Nest) (x : Pace) : State := s.setStu { s.stu with pace := s.stu.pace.set n x }

/-- R68, Table 4-3: the claim defaults; the safe value is kept. -/
def Channel.claimDefaults (ch : Channel) : Channel :=
  { ch with
    stagedA := ch.safe
    stagedB := 0
    live := ch.safe
    mode := .direct
    source := .soft
    line := 0
    edge := .none
    phase := .a
    sweepN := 16
    startQ := 0
    pos := 0
    clamped := false }

/-! ## Pulse generators (R84) -/

/-- R84: while the generator rate is 0 a change of the output is taken at once, and a period begins if it is not 0.
While the rate is greater than 0 the period in progress goes on. -/
def Channel.syncRate (ch : Channel) (c : Fin 16) (out now : Nat) : Channel :=
  if chanKind c = .pulse ∧ ch.rate = 0 ∧ 0 < out then { ch with rate := out, periodEnd := (Moment.mk now 1).addPeriod out }
  else ch

/-- The generators follow the outputs of the event (log 17). -/
def State.syncGenerators (s : State) : State := s.mapChans fun c ch => ch.syncRate c (s.output c) s.ms

/-- R100: at a reset a generator takes its output as its rate at once. -/
def Channel.restartRate (ch : Channel) (c : Fin 16) (out now : Nat) : Channel :=
  Channel.syncRate { ch with rate := 0, periodEnd := ⟨0, 1⟩ } c out now

/-- R84: at the end of a period the generator takes the output as it stands; at 0 the pin is held low. -/
def Channel.endPeriod (ch : Channel) (out : Nat) : Channel :=
  if out = 0 then { ch with rate := 0, periodEnd := ⟨0, 1⟩ } else { ch with rate := out, periodEnd := ch.periodEnd.addPeriod out }

/-- PULSE PERIOD END (R84): the period in progress ends, where one is in progress and the clock has reached its end. -/
def execPulsePeriodEnd (c : Fin 16) (s : State) : Result :=
  .next (if chanKind c = .pulse ∧ 0 < (s.chan c).rate ∧ (s.chan c).periodEnd.reached s.ms then
    s.setChan c ((s.chan c).endPeriod (s.output c)) else s)

/-! ## Commit events (section 5.4) -/

/-- R98, Table 5-6. -/
def sweepProfile (N n : Nat) : Int :=
  if n ≤ N / 4 then n else if n ≤ 3 * N / 4 then (N / 2 : Nat) - (n : Int) else (n : Int) - N

/-- R97 steps 1 to 3: staged A plus the quotient, truncated toward zero. -/
def Channel.sweepSum (ch : Channel) : Int :=
  ch.stagedA + Int.tdiv (ch.stagedB * sweepProfile ch.sweepN ch.pos) (ch.sweepN / 4 : Nat)

/-- R97 step 4: the sum clamped into the range 0 to top. -/
def clampTo (top : Nat) (x : Int) : Nat := if x < 0 then 0 else if (top : Int) < x then top else x.toNat

/-- R95 to R97: what a commit event that is taken does, by the mode. -/
def Channel.commit (ch : Channel) (top : Nat) : Channel :=
  match ch.mode with
  | .direct => ch
  | .latched => { ch with live := ch.stagedA }
  | .alternate =>
    match ch.phase with
    | .a => { ch with live := ch.stagedA, phase := .b }
    | .b => { ch with live := ch.stagedB, phase := .a }
  | .sweep =>
    { ch with
      live := clampTo top ch.sweepSum
      clamped := ch.sweepSum < 0 || (top : Int) < ch.sweepSum
      pos := if ch.pos + 1 = ch.sweepN then 0 else ch.pos + 1 }

/-- R94: a channel takes a commit event when its owner's run is ACTIVE. -/
def Channel.ownerActive (ch : Channel) (active : Nest → Bool) : Bool :=
  match ch.owner with
  | some n => active n
  | none => false

/-- One commit event for every selected channel, each by its own mode and values; then the generators follow. -/
def State.commitWhere (s : State) (sel : Fin 16 → Channel → Bool) : State :=
  (s.mapChans fun c ch => if sel c ch && ch.ownerActive s.active then ch.commit (chanTop c) else ch).syncGenerators

/-- R90: the channels of a mask that the nest owns and whose commit source is SOFT. -/
def softSelect (n : Nest) (mask : Word) (c : Fin 16) (ch : Channel) : Bool :=
  inMask mask c && ch.owner == some n && ch.source == .soft

/-- R90, R99: a soft commit for a nest; nothing is touched unless its run is ACTIVE. -/
def State.softCommit (s : State) (n : Nest) (mask : Word) : State :=
  if s.active n then s.commitWhere (softSelect n mask) else s

/-- R75: an edge selection includes an edge's direction. -/
def EdgeSel.includes (sel : EdgeSel) (e : Edge) : Bool :=
  match sel, e with
  | .both, _ | .rising, .rising | .falling, .falling => true
  | .none, _ | .rising, .falling | .falling, .rising => false

/-- R75, R94: an edge is a commit event for each channel whose source is LINE with this line and a selection that includes it. -/
def State.edgeToChannels (s : State) (l : Fin 4) (e : Edge) : State :=
  s.commitWhere fun _ ch => ch.source == .line && ch.line == l && ch.edge.includes e

/-! ## Claims (sections 4.2 and 4.3) -/

/-- R68: the release of one channel: claim defaults, then the waiter, if any, becomes the owner. -/
def Channel.release (ch : Channel) : Channel := { ch.claimDefaults with owner := ch.waiter, waiter := none }

/-- R68: one CLAIM_GRANTED notice names every channel an event hands to the waiting nest; none if there is none. -/
def State.postGranted (s : State) (n : Nest) (mask : Word) : State :=
  if mask = 0#16 then s else s.postStation n (.claimGranted mask)

/-- The channels of sel that nest n owns, as a mask. -/
def State.ownedMask (s : State) (n : Nest) (sel : Fin 16 → Bool) : Word :=
  maskOf fun c => sel c && (s.chan c).owner == some n

/-- The channels of sel on which nest n waits, as a mask. -/
def State.waitMask (s : State) (n : Nest) (sel : Fin 16 → Bool) : Word :=
  maskOf fun c => sel c && (s.chan c).waiter == some n

/-- What a release by nest n does to one channel of it: an owned one is released, a wait is withdrawn (R69, R70). -/
def Channel.giveUp (ch : Channel) (n : Nest) : Channel :=
  if ch.owner = some n then ch.release else if ch.waiter = some n then { ch with waiter := none } else ch

/-- R69, R70: nest n releases its channels of sel and withdraws its waits on the others of sel, in one event. -/
def State.giveUpWhere (s : State) (n : Nest) (sel : Fin 16 → Bool) : State :=
  ((s.mapChans fun c ch => if sel c then ch.giveUp n else ch).syncGenerators).postGranted n.other
    (maskOf fun c => sel c && (s.chan c).owner == some n && (s.chan c).waiter == some n.other)

/-- Table 4-2: CLAIM CHANNELS on one channel. -/
def Channel.claim (ch : Channel) (n : Nest) (wait : Bool) : Channel :=
  match ch.owner with
  | none => { ch with owner := some n }
  | some m => if m ≠ n ∧ ch.waiter = none ∧ wait then { ch with waiter := some n } else ch

/-- CLAIM CHANNELS (R67). -/
def execClaimChannels (p : Port) (s : State) : Result :=
  .next (s.stationCommand p (named := paramBits (.claimChannels p)) fun n s =>
    let mask := s.param p 0
    if !(s.run n).state.isOpen then refuse s .wrongState
    else
      let t := s.mapChans fun c ch => if inMask mask c then ch.claim n (flagBit (s.param p 1) 0) else ch
      let granted := t.ownedMask n (inMask mask)
      let waiting := t.waitMask n (inMask mask)
      accept t.syncGenerators [granted, waiting, mask &&& ~~~(granted ||| waiting)])

/-- RELEASE CHANNELS (R69). -/
def execReleaseChannels (p : Port) (s : State) : Result :=
  .next (s.stationCommand p fun n s =>
    let mask := s.param p 0
    accept (s.giveUpWhere n (inMask mask)) [s.ownedMask n (inMask mask),
      maskOf fun c => inMask mask c && (s.chan c).owner != some n && (s.chan c).waiter == some n])

/-- SET SAFE VALUE (R71). -/
def execSetSafeValue (p : Port) (s : State) : Result :=
  .next (s.stationCommand p fun _ s =>
    let v := (s.param p 1).toNat
    match index? 16 (s.param p 0).toNat with
    | none => refuse s .range
    | some c =>
      if (s.chan c).owner ≠ none then refuse s .wrongState
      else if chanTop c < v then refuse s .range
      else accept (s.setChan c { s.chan c with safe := v, stagedA := v, live := v }).syncGenerators [])

/-- READ CLAIM TABLE (R72). -/
def execReadClaimTable (p : Port) (s : State) : Result :=
  .next (s.takeCommand p .anyPort fun s =>
    accept s [s.ownedMask .a fun _ => true, s.ownedMask .b fun _ => true,
      s.waitMask .a fun _ => true, s.waitMask .b fun _ => true])

/-! ## Pace timers (section 4.6) -/

/-- R77: a commit event for every channel of the nest whose source is PACE, and the timer runs a full period from this expiry. -/
def State.paceCommit (s : State) (n : Nest) (expiry : Nat) : State :=
  (s.commitWhere fun _ ch => ch.owner == some n && ch.source == .pace).setPace n
    { s.stu.pace.get n with timer := .running (expiry + (s.stu.pace.get n).period) }

/-- PACE EXPIRY (R77). -/
def execPaceExpiry (n : Nest) (s : State) : Result :=
  .next (match (s.stu.pace.get n).timer with
    | .running e => if e ≤ s.ms then s.paceCommit n e else s
    | .stopped | .paused _ => s)

/-- R78, Table 4-6: the timer SET PACE sets. -/
def paceTimerFor (st : RunState) (period now : Nat) : RunTimer :=
  if period = 0 then .stopped
  else match st with
    | .active => .running (now + period)
    | .held => .paused period
    | .idle | .ended | .aborted => .stopped

/-- SET PACE (R78). -/
def execSetPace (p : Port) (s : State) : Result :=
  .next (s.stationCommand p fun n s =>
    let period := (s.param p 0).toNat
    accept (s.setPace n ⟨period, paceTimerFor (s.run n).state period s.ms⟩) [])

/-- READ PACE (R79). -/
def execReadPace (p : Port) (s : State) : Result :=
  .next (s.stationCommand p fun n s =>
    let x := s.stu.pace.get n
    accept s [wordOfNat x.period, wordOfNat x.timer.num, wordOfNat (x.timer.left s.ms)])

/-! ## What the STU does on the reports of its nests' runs (R70, R76, R85) -/

/-- R76 at OPEN RUN. -/
def State.paceOpened (s : State) (n : Nest) : State :=
  let x := s.stu.pace.get n
  s.setPace n { x with timer := if x.period = 0 then .stopped else .running (s.ms + x.period) }

/-- R76 at RESUME RUN; a remaining time of 0 expires in this event. -/
def State.paceResumed (s : State) (n : Nest) : State :=
  let x := s.stu.pace.get n
  if x.timer.spent then s.paceCommit n s.ms else s.setPace n { x with timer := x.timer.resume s.ms }

/-- R76 at a hold. -/
def State.paceHeld (s : State) (n : Nest) : State :=
  let x := s.stu.pace.get n
  s.setPace n { x with timer := x.timer.pause s.ms }

/-- R76 at a close. -/
def State.paceClosed (s : State) (n : Nest) : State := s.setPace n { s.stu.pace.get n with timer := .stopped }

/-! ## Channel commands (section 5.3) -/

/-- R86: the checks that STAGE A, STAGE B and CONFIGURE CHANNEL make first. -/
def State.ownedChannel (s : State) (p : Port) (n : Nest) (k : Fin 16 → State × Answer) : State × Answer :=
  match index? 16 (s.param p 0).toNat with
  | none => refuse s .range
  | some c => if (s.chan c).owner ≠ some n then refuse s .notOwner else k c

/-- R87, R89: staged A takes the value, and the live value takes it too in DIRECT. -/
def Channel.stageA (ch : Channel) (v : Nat) : Channel :=
  match ch.mode with
  | .direct => { ch with stagedA := v, live := v }
  | .latched | .alternate | .sweep => { ch with stagedA := v }

/-- STAGE A (R87). -/
def execStageA (p : Port) (s : State) : Result :=
  .next (s.stationCommand p fun n s => s.ownedChannel p n fun c =>
    let v := (s.param p 1).toNat
    if chanTop c < v then refuse s .range
    else accept (s.setChan c ((s.chan c).stageA v)).syncGenerators [])

/-- STAGE B (R88). -/
def execStageB (p : Port) (s : State) : Result :=
  .next (s.stationCommand p fun n s => s.ownedChannel p n fun c =>
    let v := (s.param p 1).toNat
    if chanTop c < v then refuse s .range
    else accept (s.setChan c { s.chan c with stagedB := v }) [])

/-- STAGE MANY (R89). -/
def execStageMany (p : Port) (s : State) : Result :=
  .next (s.stationCommand p fun n s =>
    let mask := s.param p 0
    let v := (s.param p 1).toNat
    let applied := fun c => inMask mask c && (s.chan c).owner == some n
    if (List.finRange 16).any fun c => applied c && decide (chanTop c < v) then refuse s .range
    else accept (s.mapChans fun c ch => if applied c then ch.stageA v else ch).syncGenerators [maskOf applied])

/-- COMMIT (R90). -/
def execCommit (p : Port) (s : State) : Result :=
  .next (s.stationCommand p fun n s =>
    let mask := s.param p 0
    if !s.active n then refuse s .wrongState
    else accept (s.softCommit n mask) [maskOf fun c => softSelect n mask c (s.chan c)])

/-- The six fields CONFIGURE CHANNEL sets (R91). -/
structure ChannelConfig where
  mode : ChanMode
  source : CommitSource
  line : Fin 4
  edge : EdgeSel
  sweepN : Nat
  startQ : Nat
deriving DecidableEq, Repr

/-- R91: the parameters of CONFIGURE CHANNEL, or none where one is refused with RANGE. -/
def channelConfigOf (c : Fin 16) (mode source line edge N q : Nat) : Option ChannelConfig :=
  match chanModeOf mode, commitSourceOf source, index? 4 line, edgeSelOf edge with
  | some m, some src, some l, some e =>
    if sweepPeriodOk N && decide (q ≤ 3) && !(m == .sweep && chanKind c == .switch) then some ⟨m, src, l, e, N, q⟩ else none
  | _, _, _, _ => none

/-- R92: the sweep position is set when SWEEP is entered, and when N or q changes. -/
def Channel.setsPosition (ch : Channel) (x : ChannelConfig) : Bool :=
  (x.mode == .sweep && ch.mode != .sweep) || x.sweepN != ch.sweepN || x.startQ != ch.startQ

/-- R91, R92. -/
def Channel.configure (ch : Channel) (x : ChannelConfig) : Channel :=
  { ch with
    mode := x.mode
    source := x.source
    line := x.line
    edge := x.edge
    sweepN := x.sweepN
    startQ := x.startQ
    phase := if x.mode = .alternate ∧ ch.mode ≠ .alternate then .a else ch.phase
    pos := if ch.setsPosition x then x.startQ * x.sweepN / 4 else ch.pos
    clamped := if ch.setsPosition x then false else ch.clamped }

/-- CONFIGURE CHANNEL (R91). -/
def execConfigureChannel (p : Port) (s : State) : Result :=
  .next (s.stationCommand p fun n s => s.ownedChannel p n fun c =>
    match channelConfigOf c (s.param p 1).toNat (s.param p 2).toNat (s.param p 3).toNat (s.param p 4).toNat
        (s.param p 5).toNat (s.param p 6).toNat with
    | none => refuse s .range
    | some x => accept (s.setChan c ((s.chan c).configure x)) [])

/-- Table 10-11, READ CHANNEL. -/
def State.channelWords (s : State) (c : Fin 16) : List Word :=
  let ch := s.chan c
  [packWord [(ownerNum ch.owner, 0, 2), (ownerNum ch.waiter, 2, 2), (ch.mode.num, 4, 2), (ch.source.num, 6, 2), (ch.line.val, 8, 2),
     (ch.edge.num, 10, 2), (ch.phase.num, 12, 1), (flagNat ch.clamped, 13, 1), (flagNat (s.routed c), 14, 1)],
   packWord [(ch.sweepN, 0, 7), (ch.startQ, 8, 2), (ch.pos, 10, 6)],
   wordOfNat ch.safe, wordOfNat ch.stagedA, wordOfNat ch.stagedB, wordOfNat ch.live, wordOfNat (s.output c), wordOfNat ch.rate]

/-- READ CHANNEL (R93). -/
def execReadChannel (p : Port) (s : State) : Result :=
  .next (s.takeCommand p .anyPort fun s =>
    match index? 16 (s.param p 0).toNat with
    | none => refuse s .range
    | some c => accept s (s.channelWords c))

end Sys2Proof.Machine
end

