-- ==== Sys2Proof/Machine/Bus.lean ====
section
/-! DEFINITION. The Bus Emulation Units: link, broadcasts, replies, restart, watches, the transmit queue, and their commands
(Chapter 6). -/

namespace Sys2Proof.Machine

/-! ## Tables and queues -/

def State.setBcast (s : State) (n : Nest) (k : Fin 24) (b : Broadcast) : State :=
  s.setBus n { s.bus n with bcast := (s.bus n).bcast.set k b }

def State.setReply (s : State) (n : Nest) (k : Fin 16) (r : Reply) : State :=
  s.setBus n { s.bus n with replies := (s.bus n).replies.set k r }

def State.setWatch (s : State) (n : Nest) (w : Fin 8) (x : Option Watch) : State :=
  s.setBus n { s.bus n with watches := (s.bus n).watches.set w x }

/-- R105: the queue has room for a composed frame. -/
def Beu.txRoom (b : Beu) : Bool := b.txq.length < Config.txCap

/-- R105: a composed frame joins at the tail with attempt count 0. -/
def Beu.enqueue (b : Beu) (f : Frame) (src : TxSource) : Beu := { b with txq := b.txq ++ [⟨f, src, 0⟩] }

/-! ## Broadcasts (section 6.4) -/

/-- R108: a broadcast timer that starts, or STOPPED. -/
def broadcastTimer (runs : Bool) (period now : Nat) : Timer := if runs then .running (now + period) else .stopped

/-- R109: the payload with the linked field's two bytes replaced by a channel's value, high byte first. -/
def linkPayload (bytes : Vector Byte 8) (offset value : Nat) : Vector Byte 8 :=
  Vector.ofFn fun i =>
    if i.val = offset then (wordOfNat value).extractLsb' 8 8
    else if i.val = offset + 1 then (wordOfNat value).extractLsb' 0 8
    else bytes[i]

/-- R109: the frame composed from a broadcast entry as it stands. -/
def State.composeBroadcast (s : State) (n : Nest) (b : Broadcast) : Frame :=
  let bytes := match b.linked with
    | none => b.bytes
    | some x => linkPayload b.bytes x.offset (s.seenBy n x.chan)
  ⟨b.id, bytes.toList.take b.len⟩

/-- BROADCAST TIMER EXPIRY (R109, R108): the frame joins the queue, or is skipped when the queue is full; the timer restarts
one period from this expiry. -/
def execBroadcastTimerExpiry (n : Nest) (k : Fin 24) (s : State) : Result :=
  let b := (s.bus n).bcast[k]
  .next (match b.timer with
    | .stopped => s
    | .running e =>
      if e ≤ s.ms then
        let t := s.setBcast n k { b with timer := .running (e + b.period) }
        if (t.bus n).txRoom then t.setBus n ((t.bus n).enqueue (s.composeBroadcast n b) (.broadcast k)) else t
      else s)

/-! ## The link and the transmitter (sections 6.2 and 6.3) -/

/-- R104: the link leaves ACTIVE. A frame on the wire is finished, and its outcome is not taken. -/
def Beu.leaveActive (b : Beu) : Beu :=
  { b with
    tx := if b.tx = .sending then .orphaned else b.tx
    txq := []
    sched := []
    bcast := b.bcast.map fun x => { x with timer := .stopped } }

/-- R103, R108: the link enters ACTIVE; every enabled entry's timer starts. -/
def Beu.enterActive (b : Beu) (now : Nat) : Beu :=
  { b with bcast := b.bcast.map fun x => { x with timer := broadcastTimer x.enabled x.period now } }

/-- R103, Table 6-1. -/
def Beu.setLink (b : Beu) (new : LinkState) (now : Nat) : Beu :=
  if new = b.link then b
  else
    let c := if b.link = .active then b.leaveActive else if new = .active then b.enterActive now else b
    { c with link := new }

/-- SET LINK (R103). -/
def execSetLink (p : Port) (s : State) : Result :=
  .next (s.stationCommand p fun n s =>
    match linkStateOf (s.param p 0).toNat with
    | none => refuse s .range
    | some l => accept (s.setBus n ((s.bus n).setLink l s.ms)) [])

/-- TRANSMIT START (R106): the bus is idle, and the link offers the head frame while it is ACTIVE. -/
def execTransmitStart (n : Nest) (s : State) : Result :=
  let b := s.bus n
  .next (if b.link = .active ∧ b.tx = .idle ∧ b.txq ≠ [] then s.setBus n { b with tx := .sending } else s)

/-- R106: the reply count of an acknowledged reply frame's entry; a broadcast frame is not counted. -/
def State.countReply (s : State) (n : Nest) : TxSource → State
  | .broadcast _ => s
  | .reply k => s.setReply n k { (s.bus n).replies[k] with replyCount := sat16 (s.bus n).replies[k].replyCount }

/-- R106: the head frame was not acknowledged. -/
def State.attemptFailed (s : State) (n : Nest) (f : TxFrame) (rest : List TxFrame) : State :=
  if f.attempts + 1 < 8 then s.setBus n { s.bus n with tx := .idle, txq := { f with attempts := f.attempts + 1 } :: rest }
  else (s.setBus n { s.bus n with tx := .idle, txq := rest }).postStation n (.txFailed f.source)

/-- TRANSMISSION END (R106): the end of the head frame's transmission; of a frame whose outcome is not taken (R104), nothing
but that the wire is free again. -/
def execTransmissionEnd (n : Nest) (o : TxOutcome) (s : State) : Result :=
  let b := s.bus n
  .next (match b.tx, b.txq with
    | .idle, _ => s
    | .orphaned, _ | .sending, [] => s.setBus n { b with tx := .idle }
    | .sending, f :: rest =>
      match o with
      | .arbitrationLost => s.setBus n { b with tx := .idle }
      | .acknowledged => (s.setBus n { b with tx := .idle, txq := rest }).countReply n f.source
      | .notAcknowledged => s.attemptFailed n f rest)

/-! ## Replies (sections 6.5 and 6.8) -/

/-- R110: an entry is armed while its reservation is not NONE. -/
def Reply.armed (r : Reply) : Bool := r.reservation != .none

/-- R118: an armed entry matches a frame of its identifier whose byte 0 is the match byte, where there is one. -/
def Reply.hits (r : Reply) (f : Frame) : Bool :=
  r.armed && r.matchId == f.id &&
    match r.matchByte with
    | none => true
    | some b => f.data[0]? == some b

/-- R118: the lowest-numbered armed entry that matches. -/
def Beu.replyMatch (b : Beu) (f : Frame) : Option (Fin 16) := (List.finRange 16).find? fun k => b.replies[k].hits f

/-- R118, R119: the form of the reply a reservation schedules; SILENT schedules none. -/
def Reservation.form? : Reservation → Option ReplyForm
  | .none | .silent => Option.none
  | .buffer0 => some .buffer0
  | .buffer1 => some .buffer1
  | .alternate => some .alternate
  | .defer => some .deferFirst

/-- R117, R118: a one-shot reservation that is used up or cleared. -/
def Reply.disarmOneShot (r : Reply) : Reply := if r.oneShot then { r with reservation := .none, oneShot := false } else r

/-- R118 steps 1 to 4 on the entry; full says that the scheduled-reply list already holds 8. -/
def Reply.matched (r : Reply) (full : Bool) : Reply :=
  Reply.disarmOneShot { r with
    matchCount := sat16 r.matchCount
    dropCount := if r.reservation.form?.isSome && full then sat16 r.dropCount else r.dropCount }

/-- R118: the reply match of a GOOD arrival. -/
def State.matchReply (s : State) (n : Nest) (f : Frame) : State :=
  let b := s.bus n
  match b.replyMatch f with
  | none => s
  | some k =>
    let r := b.replies[k]
    let full := decide (Config.schedCap ≤ b.sched.length)
    let t := s.setReply n k (r.matched full)
    match r.reservation.form? with
    | some form => if full then t else t.setBus n { t.bus n with sched := b.sched ++ [⟨k, form, s.ms + r.delay⟩] }
    | none => t

/-- Table 6-3: the buffer a form sends, and the entry after it. -/
def Reply.bufferFor (r : Reply) : ReplyForm → ReplyBuffer
  | .buffer0 | .deferSecond => r.buf0
  | .buffer1 | .deferFirst => r.buf1
  | .alternate =>
    match r.phase with
    | .zero => r.buf0
    | .one => r.buf1

def BufferSel.flip : BufferSel → BufferSel
  | .zero => .one
  | .one => .zero

/-- R120: the ALTERNATE phase flips in either case, and a reply that finds the queue full is counted as dropped. -/
def Reply.sent (r : Reply) (form : ReplyForm) (room : Bool) : Reply :=
  { r with
    phase := if form = .alternate then r.phase.flip else r.phase
    dropCount := if room then r.dropCount else sat16 r.dropCount }

/-- R120, R121: the scheduled reply x falls due: it leaves the list, its frame is composed and queued, and a DEFER_FIRST puts
its second part into the list. -/
def State.fallDue (s : State) (n : Nest) (k : Nat) (x : Scheduled) : State :=
  let b := s.bus n
  let r := b.replies[x.entry]
  let buf := r.bufferFor x.form
  let second : List Scheduled := if x.form = .deferFirst then [⟨x.entry, .deferSecond, x.due + r.defer⟩] else []
  let c : Beu := { b with sched := b.sched.eraseIdx k ++ second, replies := b.replies.set x.entry (r.sent x.form b.txRoom) }
  s.setBus n (if b.txRoom then c.enqueue ⟨r.replyId, buf.bytes.toList.take buf.len⟩ (.reply x.entry) else c)

/-- REPLY DUE (R120): the k-th scheduled reply, at its due time. -/
def execReplyDue (n : Nest) (k : Nat) (s : State) : Result :=
  .next (match (s.bus n).sched[k]? with
    | some x => if x.due ≤ s.ms then s.fallDue n k x else s
    | none => s)

/-- R115: a reply scheduled in this event with a delay of 0 falls due within it. had is the list's length before the match. -/
def State.fallDueNow (s : State) (n : Nest) (had : Nat) : State :=
  match (s.bus n).sched[had]? with
  | some x => if x.due = s.ms then s.fallDue n had x else s
  | none => s

/-! ## Restart (R117) -/

def Reply.restarted (r : Reply) : Reply :=
  { (if r.armed then r.disarmOneShot else r) with phase := .zero }

/-- R117: the restart check of a GOOD arrival. -/
def State.restartCheck (s : State) (n : Nest) (f : Frame) : State :=
  let b := s.bus n
  if b.restartId = some f.id then
    (s.setBus n { b with replies := b.replies.map Reply.restarted, sched := [] }).postStation n (.restartSeen f.id)
  else s

/-! ## Watches (section 6.10) -/

def Watch.work (n : Nest) (w : Watch) : WorkId := ⟨n, w.serial, w.seq⟩

/-- R124: a watch matches a frame of its identifier that carries every match byte. -/
def Watch.hits (w : Watch) (f : Frame) : Bool :=
  w.id == f.id && w.bytes.all fun m => f.data[m.index]? == some m.value

/-- R124: the first four payload bytes, byte 0 the most significant; missing bytes count as 0. -/
def Frame.value (f : Frame) : Quad := f.data.getD 0 0#8 ++ f.data.getD 1 0#8 ++ f.data.getD 2 0#8 ++ f.data.getD 3 0#8

/-- Table 6-4, matching frame. -/
def Watch.seen (w : Watch) (f : Frame) : WorkResult :=
  match w.kind with
  | .expect => ⟨.pass, .seen, 1, some (Frame.value f)⟩
  | .forbid => ⟨.fail, .seen, 1, some (Frame.value f)⟩

/-- Table 6-4, window expiry. -/
def Watch.absent (w : Watch) : WorkResult :=
  match w.kind with
  | .expect => ⟨.fail, .absent, 1, none⟩
  | .forbid => ⟨.pass, .absent, 1, none⟩

/-- A watch in slot i is removed with a result, where it stands and c holds of it. -/
def State.endWatch (s : State) (n : Nest) (i : Fin 8) (c : Watch → Bool) (x : Watch → WorkResult) : State :=
  match (s.bus n).watches[i] with
  | some w => if c w then (s.setWatch n i none).result (w.work n) (x w) else s
  | none => s

/-- The watches of c are removed with their results, in ascending slot number. -/
def State.endWatches (s : State) (n : Nest) (c : Watch → Bool) (x : Watch → WorkResult) : State :=
  (List.finRange 8).foldl (fun s i => s.endWatch n i c x) s

/-- R124: the watch match of a GOOD arrival, while the nest's run is ACTIVE. -/
def State.matchWatches (s : State) (n : Nest) (f : Frame) : State :=
  if s.active n then s.endWatches n (fun w => w.hits f) (fun w => w.seen f) else s

/-- WINDOW EXPIRY (R125). -/
def execWindowExpiry (n : Nest) (i : Fin 8) (s : State) : Result :=
  .next (s.endWatch n i (fun w => w.window.due s.ms) Watch.absent)

/-- Every watch of the nest changed by f. -/
def State.mapWatches (s : State) (n : Nest) (f : Watch → Option Watch) : State :=
  s.setBus n { s.bus n with watches := (s.bus n).watches.map fun w => w.bind f }

/-- R126 at became ACTIVE: windows with no time left expire in this event, the others run again. -/
def State.beuBecameActive (s : State) (n : Nest) : State :=
  (s.endWatches n (fun w => w.window.spent) Watch.absent).mapWatches n fun w => some { w with window := w.window.resume s.ms }

/-- R126 at became HELD. -/
def State.beuBecameHeld (s : State) (n : Nest) : State := s.mapWatches n fun w => some { w with window := w.window.pause s.ms }

/-- R126, R127: watches are withdrawn; no result is sent. -/
def State.withdrawWatches (s : State) (n : Nest) (c : WorkId → Bool) : State :=
  s.mapWatches n fun w => if c (w.work n) then none else some w

/-! ## Arrivals (R115, R122) -/

/-- R115: a GOOD arrival: restart check, reply match in ACTIVE only, watch match, then a reply with a delay of 0. -/
def State.goodArrival (s : State) (n : Nest) (f : Frame) : State :=
  let s1 := s.restartCheck n f
  if (s1.bus n).link = .active then ((s1.matchReply n f).matchWatches n f).fallDueNow n (s1.bus n).sched.length
  else s1.matchWatches n f

/-- FRAME ARRIVAL (R102, R115, R122): in OFF no arrival is taken; an errored frame, which one longer than 8 bytes is, is only
reported to the RNC. -/
def execFrameArrival (n : Nest) (r : RxResult) (f : Frame) (s : State) : Result :=
  .next (if (s.bus n).link = .off then s
    else if r = .good ∧ f.wf then s.goodArrival n f
    else s.countBusError n)

/-! ## Commands -/

/-- SET RESTART IDENTIFIER (R114). -/
def execSetRestartIdentifier (p : Port) (s : State) : Result :=
  .next (s.stationCommand p (named := paramBits (.setRestartIdentifier p)) fun n s =>
    let v := (s.param p 0).toNat
    if flagBit (s.param p 1) 0 then accept (s.setBus n { s.bus n with restartId := none }) []
    else if 2047 < v then refuse s .range
    else accept (s.setBus n { s.bus n with restartId := some (BitVec.ofNat 11 v) }) [])

/-- R107, Table 10-8: the linked field of WRITE BROADCAST ENTRY; none where it is refused with RANGE. -/
def linkedFieldOf (present : Bool) (w7 : Word) (len : Nat) : Option (Option LinkedField) :=
  if !present then some none
  else
    match index? 16 (bitField w7 8 4) with
    | some c => if bitField w7 0 3 ≤ 6 ∧ bitField w7 0 3 + 2 ≤ len then some (some ⟨bitField w7 0 3, c⟩) else none
    | none => none

/-- R107, R108: the entry WRITE BROADCAST ENTRY writes, with its timer; none where it is refused with RANGE. -/
def broadcastOf (ps : Vector Word 8) (linkActive : Bool) (now : Nat) : Option Broadcast :=
  let len := bitField ps[1] 12 4
  let period := ps[6].toNat
  let enabled := flagBit ps[0] 8
  match linkedFieldOf (flagBit ps[0] 9) ps[7] len with
  | some linked =>
    if len ≤ 8 ∧ 10 ≤ period ∧ period ≤ 10000 then
      some ⟨BitVec.ofNat 11 (bitField ps[1] 0 11), len, payloadOf ps[2] ps[3] ps[4] ps[5], period, enabled, linked,
        broadcastTimer (enabled && linkActive) period now⟩
    else none
  | none => none

/-- WRITE BROADCAST ENTRY (R107, R108). -/
def execWriteBroadcastEntry (p : Port) (s : State) : Result :=
  .next (s.stationCommand p (named := paramBits (.writeBroadcastEntry p)) fun n s =>
    match index? 24 (bitField (s.param p 0) 0 5), broadcastOf (s.port p).params ((s.bus n).link == .active) s.ms with
    | some k, some b => accept (s.setBcast n k b) []
    | _, _ => refuse s .range)

/-- READ BROADCAST ENTRY (R107). -/
def execReadBroadcastEntry (p : Port) (s : State) : Result :=
  .next (s.stationCommand p fun n s =>
    match index? 24 (s.param p 0).toNat with
    | none => refuse s .range
    | some k => accept s ((s.bus n).bcast[k].words s.ms))

/-- WRITE REPLY ENTRY (R111): opens an incoming transfer of 15 words. -/
def execWriteReplyEntry (p : Port) (s : State) : Result :=
  .next (s.stationCommand p fun n s =>
    match index? 16 (s.param p 0).toNat with
    | none => refuse s .range
    | some k => (s, .takeIn (.replyEntry n k) 15))

/-- R111: the fields of 15 words; none where one is refused with RANGE. The other fields of the entry are kept. -/
def Reply.written (r : Reply) (d : Nat → Word) : Option Reply :=
  if (d 0).toNat ≤ 2047 ∧ (d 2).toNat ≤ 2047 ∧ (d 3).toNat ≤ 255 ∧ 1 ≤ (d 4).toNat ∧ (d 4).toNat ≤ 5000 ∧ (d 5).toNat ≤ 8 ∧
      (d 10).toNat ≤ 8 then
    some { r with
      matchId := BitVec.ofNat 11 (d 0).toNat
      matchByte := if flagBit (d 1) 8 then some (BitVec.ofNat 8 (bitField (d 1) 0 8)) else none
      replyId := BitVec.ofNat 11 (d 2).toNat
      delay := (d 3).toNat
      defer := (d 4).toNat
      buf0 := ⟨(d 5).toNat, payloadOf (d 6) (d 7) (d 8) (d 9)⟩
      buf1 := ⟨(d 10).toNat, payloadOf (d 11) (d 12) (d 13) (d 14)⟩ }
  else none

/-- R111: the 15th word of a WRITE REPLY ENTRY has arrived. -/
def State.applyReplyWords (s : State) (n : Nest) (k : Fin 16) (words : List Word) : State × Answer :=
  match (s.bus n).replies[k].written fun i => words.getD i 0#16 with
  | none => refuse s .range
  | some r => accept (s.setReply n k r) []

/-- R112. -/
def Reply.arm (r : Reply) (x : Reservation) (oneShot : Bool) : Reply :=
  { r with
    reservation := x
    oneShot := oneShot && x != .none
    phase := if x = .alternate then .zero else r.phase }

/-- ARM REPLY (R112). -/
def execArmReply (p : Port) (s : State) : Result :=
  .next (s.stationCommand p (named := paramBits (.armReply p)) fun n s =>
    match index? 16 (s.param p 0).toNat, reservationOf (bitField (s.param p 1) 0 3) with
    | some k, some x => accept (s.setReply n k ((s.bus n).replies[k].arm x (flagBit (s.param p 1) 8))) []
    | _, _ => refuse s .range)

/-- READ REPLY ENTRY (R113): a snapshot of 19 words, and the counts cleared after it if the clear flag is set. -/
def execReadReplyEntry (p : Port) (s : State) : Result :=
  .next (s.stationCommand p (named := paramBits (.readReplyEntry p)) fun n s =>
    match index? 16 (s.param p 0).toNat with
    | none => refuse s .range
    | some k =>
      let r := (s.bus n).replies[k]
      (if flagBit (s.param p 1) 0 then s.setReply n k { r with matchCount := 0, replyCount := 0, dropCount := 0 } else s,
        .sendOut r.stream))

/-- Table 10-8: a match byte word of ARM WATCH. -/
def matchByteOf (w : Word) : MatchByte := ⟨bitField w 8 3, BitVec.ofNat 8 (bitField w 0 8)⟩

/-- R123, Table 10-8: the match bytes, or none where there are more than two or two have the same index. Words beyond the count
are ignored. -/
def matchBytesOf (count : Nat) (w2 w3 : Word) : Option (List MatchByte) :=
  match count with
  | 0 => some []
  | 1 => some [matchByteOf w2]
  | 2 => if (matchByteOf w2).index = (matchByteOf w3).index then none else some [matchByteOf w2, matchByteOf w3]
  | _ => none

/-- R123: the window of a new watch. -/
def joiningWindow (st : RunState) (window now : Nat) : RunTimer :=
  if st = .active then .running (now + window) else .paused window

/-- R123: the lowest-numbered free slot. -/
def Beu.freeSlot (b : Beu) : Option (Fin 8) := (List.finRange 8).find? fun i => b.watches[i].isNone

/-- R123: the entry and the watch are created in one event. -/
def State.joinWatches (s : State) (n : Nest) (i : Fin 8) (tag : Word) (kind : WatchKind) (id : BusId) (bytes : List MatchByte)
    (window : Nat) : State × Answer :=
  let run := s.run n
  let ek : EntryKind := match kind with
    | .expect => .busExpect
    | .forbid => .busForbid
  accept ((s.setRun n (run.append (.created ek tag none))).setWatch n i
    (some ⟨kind, id, bytes, run.serial, run.nextSeq, joiningWindow run.state window s.ms⟩)) [wordOfNat run.nextSeq, wordOfNat i.val]

/-- ARM WATCH (R123). -/
def execArmWatch (p : Port) (s : State) : Result :=
  .next (s.stationCommand p (named := paramBits (.armWatch p)) fun n s => s.creating n (
    let w1 := s.param p 1
    let window := (s.param p 4).toNat
    match matchBytesOf (bitField w1 12 2) (s.param p 2) (s.param p 3) with
    | none => refuse s .range
    | some bytes =>
      if window = 0 ∨ 60000 < window then refuse s .range
      else
        match (s.bus n).freeSlot with
        | none => refuse s .noSpace
        | some i =>
          s.joinWatches n i (s.param p 0) (if flagBit w1 15 then .forbid else .expect) (BitVec.ofNat 11 (bitField w1 0 11)) bytes
            window))

/-- R128: the mask of the occupied watch slots. -/
def Beu.watchMask (b : Beu) : Nat :=
  ((List.finRange 8).map fun i => if b.watches[i].isSome then 2 ^ i.val else 0).sum

/-- READ LINK STATUS (R128). -/
def execReadLinkStatus (p : Port) (s : State) : Result :=
  .next (s.stationCommand p fun n s =>
    let b := s.bus n
    accept s [wordOfNat b.link.num, packWord [((b.restartId.getD 0#11).toNat, 0, 11), (flagNat b.restartId.isSome, 15, 1)],
      wordOfNat b.txq.length, wordOfNat b.sched.length, wordOfNat b.watchMask])

end Sys2Proof.Machine
end

