-- ==== Sys2Proof/Machine/Measurement.lean ====
section
/-! DEFINITION. The Measurement Engine: the queue, gates, the engine, samples and edges, completions, and its commands (Chapter 7). -/

namespace Sys2Proof.Machine

/-! ## Requests -/

/-- R130: a request whose gate edge is NONE has no gate. -/
def Request.gated (r : Request) : Bool := r.gateEdge != .none

/-- R135: ready when it has no gate or its gate-seen mark is set. -/
def Request.ready (r : Request) : Bool := !r.gated || r.seen

/-- R140: the kinds that take samples; the others follow the level through a window. -/
def MeasureKind.sampled : MeasureKind → Bool
  | .level | .current | .zero => true
  | .duty | .freq | .count => false

/-- R131 step 3, R147: the kinds that use a sense input. -/
def MeasureKind.usesInput : MeasureKind → Bool
  | .level | .duty | .freq | .count => true
  | .current | .zero => false

/-- Table 7-3: what the engine's input switch can be connected to. -/
inductive SwitchInput where
  | sense (n : Nest) (k : Fin 12)
  | supplyCurrent (n : Nest)
  | zeroReference (n : Nest)
deriving DecidableEq, Repr

/-- R133, Table 7-3: what the input switch connects to for a request. -/
def Request.connects (r : Request) : SwitchInput :=
  match r.kind with
  | .level | .duty | .freq | .count => .sense r.id.nest r.input
  | .current => .supplyCurrent r.id.nest
  | .zero => .zeroReference r.id.nest

def State.request? (s : State) (id : WorkId) : Option Request := s.mse.queue.find? fun r => r.id == id

def State.setQueue (s : State) (q : List Request) : State := s.setMse { s.mse with queue := q }

def State.setEngine (s : State) (e : Engine) : State := s.setMse { s.mse with engine := e }

/-- R130: the number of requests of one nest. -/
def Mse.ofNest (m : Mse) (n : Nest) : Nat := m.queue.countP fun r => r.id.nest == n

/-! ## The engine (R138, R139) -/

/-- R133, R139: what the input switch is connected to: the input of the request the engine works on; released while it is IDLE. -/
def State.switchInput? (s : State) : Option SwitchInput :=
  match s.mse.engine with
  | .working id _ _ => (s.request? id).map Request.connects
  | .idle => none

/-- R141: above 2500 mV the input is high, below 1500 mV low, and between the two it keeps the level it had. -/
def followLevel (was : Bool) (mv : Int) : Bool := if 2500 < mv then true else if mv < 1500 then false else was

/-- R139 to R141: the measuring phase that begins at a time. -/
def Request.measuring (r : Request) (begins : Nat) (mv : Int) : EnginePhase :=
  .measuring begins (begins + r.amount)
    (if r.kind.sampled then .samples 0 0 else .window (decide (2500 < mv)) 0 0 (begins * 1000))

/-- The voltage at the sense input a request names. -/
def State.inputOf (s : State) (r : Request) : Int := (s.mse.inputs.get r.id.nest)[r.input]

/-- R139: the engine starts a request; a settle time of 0 makes the phase MEASURING at the start itself. -/
def State.startEngine (s : State) (r : Request) : State :=
  s.setEngine (.working r.id (s.mse.offset.get r.id.nest)
    (if r.settle = 0 then r.measuring s.ms (s.inputOf r) else .settling (s.ms + r.settle)))

/-- R138: an idle engine starts the ready request of an ACTIVE nest nearest the head of the queue, if there is one. -/
def State.chooseRequest (s : State) : State :=
  match s.mse.engine with
  | .working _ _ _ => s
  | .idle =>
    match s.mse.queue.find? fun r => r.ready && s.active r.id.nest with
    | some r => s.startEngine r
    | none => s

/-- The engine abandons work for which c holds: the input is released and what was gathered is discarded (R144 to R147). -/
def State.stopEngineIf (s : State) (c : WorkId → Bool) : State :=
  match s.mse.engine with
  | .working id _ _ => if c id then s.setEngine .idle else s
  | .idle => s

/-- Requests leave the queue, the engine stops if it works on one of them, and makes its choice (R145, R146). -/
def State.withdrawRequests (s : State) (c : WorkId → Bool) : State :=
  ((s.setQueue (s.mse.queue.filter fun r => !c r.id)).stopEngineIf c).chooseRequest

/-! ## Results -/

def Request.noResult (r : Request) (d : EntryDetail) : WorkResult := ⟨.noResult, d, r.attempts, none⟩

/-- Requests that end without a value, in queue order (R136, R147). -/
def State.endRequests (s : State) (l : List Request) (d : EntryDetail) : State :=
  l.foldl (fun s r => s.result r.id (r.noResult d)) s

/-- GATE TIMER EXPIRY (R136). -/
def execGateTimerExpiry (n : Nest) (seq : Nat) (s : State) : Result :=
  .next (match s.mse.queue.find? fun r => r.id.nest == n && r.id.seq == seq && r.gate.due s.ms with
    | none => s
    | some r => (s.setQueue (s.mse.queue.filter fun x => x.id != r.id)).result r.id (r.noResult .gateTimeout))

/-- SETTLE END (R139): the phase becomes MEASURING. -/
def execSettleEnd (s : State) : Result :=
  .next (match s.mse.engine with
    | .working id off (.settling e) =>
      match s.request? id with
      | some r => if e ≤ s.ms then s.setEngine (.working id off (r.measuring e (s.inputOf r))) else s
      | none => s
    | .working _ _ (.measuring _ _ _) | .idle => s)

/-! ## Samples and crossings (R140, R141) -/

def clampInt (lo hi x : Int) : Int := max lo (min hi x)

/-- R140: a sample of CURRENT is limited to 0 to 10000 mA, a sample of LEVEL or ZERO to -30000 to +30000 mV. -/
def sampleOf (k : MeasureKind) (reading : Int) : Int :=
  match k with
  | .current => clampInt 0 10000 reading
  | .level | .zero | .duty | .freq | .count => clampInt (-30000) 30000 reading

def State.setInput (s : State) (n : Nest) (k : Fin 12) (mv : Int) : State :=
  s.setMse { s.mse with inputs := s.mse.inputs.set n ((s.mse.inputs.get n).set k mv) }

/-- A LEVEL reading is the voltage at its sense input at that moment (log 15). -/
def State.noteReading (s : State) (r : Request) (reading : Int) : State :=
  match r.kind with
  | .level => s.setInput r.id.nest r.input reading
  | .current | .duty | .freq | .count | .zero => s

/-- MEASUREMENT SAMPLE (R140): at the end of each millisecond of the measuring phase one sample is gathered. The reading is that of
the input the switch is connected to (R133). -/
def execMeasurementSample (reading : Int) (s : State) : Result :=
  .next (match s.mse.engine with
    | .working id off (.measuring b e (.samples sum taken)) =>
      match s.request? id with
      | some r =>
        if taken < r.amount ∧ b + taken + 1 ≤ s.ms then
          (s.noteReading r reading).setEngine (.working id off (.measuring b e (.samples (sum + sampleOf r.kind reading) (taken + 1))))
        else s
      | none => s
    | .working _ _ (.measuring _ _ (.window _ _ _ _)) | .working _ _ (.settling _) | .idle => s)

/-- R141: what a crossing at a moment (in microseconds) does to a window. The first level is taken from the start itself, so a change at
the very start gives it and is no edge; after that a change to high is a rising edge, and the time high grows at each change to low. -/
def crossWindow (startUs atUs : Nat) (mv : Int) (high : Bool) (edges highUs sinceUs : Nat) : Gathered :=
  if atUs ≤ startUs then .window (decide (2500 < mv)) edges highUs startUs
  else
    match high, followLevel high mv with
    | false, true => .window true (edges + 1) highUs atUs
    | true, false => .window false edges (highUs + (atUs - sinceUs)) sinceUs
    | h, _ => .window h edges highUs sinceUs

/-- SENSE INPUT CROSSING (R141): the voltage at a sense input changes, us microseconds into the millisecond of the clock; while
the engine follows that input within its window the change counts. -/
def execSenseInputCrossing (n : Nest) (k : Fin 12) (mv : Int) (us : Nat) (s : State) : Result :=
  let t := s.setInput n k mv
  .next (match s.mse.engine with
    | .working id off (.measuring b e (.window high edges highUs sinceUs)) =>
      match s.request? id with
      | some r =>
        if id.nest = n ∧ r.input = k ∧ s.ms * 1000 + us ≤ e * 1000 then
          t.setEngine (.working id off (.measuring b e (crossWindow (b * 1000) (s.ms * 1000 + us) mv high edges highUs sinceUs)))
        else t
      | none => t
    | .working _ _ (.measuring _ _ (.samples _ _)) | .working _ _ (.settling _) | .idle => t)

/-! ## Completion (R140 to R143) -/

/-- R140, R141: the measured value from what was gathered by the end of the phase. -/
def measuredValue (r : Request) (off : Int) (ends : Nat) : Gathered → Int
  | .samples sum taken =>
    let raw := Int.tdiv sum taken
    if r.kind == .level && r.corrected then clampInt (-30000) 30000 (raw - off) else raw
  | .window high edges highUs sinceUs =>
    match r.kind with
    | .duty => ((if high then highUs + (ends * 1000 - sinceUs) else highUs) / r.amount : Nat)
    | .freq => (min 200000 (edges * 10000 / r.amount) : Nat)
    | .count | .level | .current | .zero => (min 1000000 edges : Nat)

/-- Every sample of the phase has been taken; a window has nothing more to take. -/
def Gathered.complete (g : Gathered) (amount : Nat) : Bool :=
  match g with
  | .samples _ taken => taken == amount
  | .window _ _ _ _ => true

/-- R142: the comparison with the limits, the limits included. -/
def compareLimits (low high v : Int) : EntryOutcome × EntryDetail :=
  if v < low then (.fail, .low) else if high < v then (.fail, .high) else (.pass, .inLimits)

/-- The request whose measuring phase is over, with its measured value: the engine's completion (R139). -/
def State.completed? (s : State) : Option (Request × Int) :=
  match s.mse.engine with
  | .working id off (.measuring _ e g) =>
    match s.request? id with
    | some r => if e ≤ s.ms ∧ g.complete r.amount then some (r, measuredValue r off e g) else none
    | none => none
  | .working _ _ (.settling _) | .idle => none

/-- R142: a request that is tried again. -/
def Request.retried (r : Request) (now timeout : Nat) : Request :=
  { r with attempts := r.attempts + 1, seen := false, gate := if r.gated then .running (now + timeout) else .stopped }

/-- The request leaves the queue with a result. -/
def State.finishRequest (s : State) (r : Request) (x : EntryOutcome × EntryDetail) (v : Int) : State :=
  (s.setQueue (s.mse.queue.filter fun y => y.id != r.id)).result r.id ⟨x.1, x.2, r.attempts, some (BitVec.ofInt 32 v)⟩

/-- R142: the request moves to the tail for another attempt, and a progress report is sent. -/
def State.retryRequest (s : State) (r : Request) : State :=
  (s.setQueue ((s.mse.queue.filter fun y => y.id != r.id) ++ [r.retried s.ms (s.mse.gateTimeout.get r.id.nest)])).progress r.id
    (r.attempts + 1)

/-- MEASUREMENT COMPLETION (R142). -/
def execMeasurementCompletion (s : State) : Result :=
  .next (match s.completed? with
    | some (r, v) =>
      if r.kind == .zero then s
      else
        let x := compareLimits r.low.toInt r.high.toInt v
        let t := if x.1 = .fail ∧ r.attempts ≤ r.retries then s.retryRequest r else s.finishRequest r x v
        (t.setEngine .idle).chooseRequest
    | none => s)

/-- CALIBRATION COMPLETION (R143): a ZERO request; its limits are fixed at -2000 and +2000. -/
def execCalibrationCompletion (s : State) : Result :=
  .next (match s.completed? with
    | some (r, v) =>
      if r.kind == .zero then
        let x := compareLimits (-2000) 2000 v
        let t := if x.1 = .pass then s.setMse { s.mse with offset := s.mse.offset.set r.id.nest v } else s
        ((t.finishRequest r x v).setEngine .idle).chooseRequest
      else s
    | none => s)

/-! ## Gates, lost lines and run reports -/

/-- R135: an edge sets the gate-seen mark of a request and stops its gate timer. -/
def Request.takeEdge (r : Request) (l : Fin 4) (includes_ active : Bool) : Request :=
  if r.gateLine = l ∧ includes_ ∧ active ∧ !r.seen then { r with seen := true, gate := .stopped } else r

/-- R147: the loss of sense input k of a nest. -/
def State.inputLost (s : State) (n : Nest) (k : Fin 12) : State :=
  let hit := fun r : Request => r.id.nest == n && r.kind.usesInput && r.input == k
  let gone := s.mse.queue.filter hit
  ((((s.setQueue (s.mse.queue.filter fun r => !hit r)).stopEngineIf fun id => gone.any (·.id == id)).endRequests gone
    .lineLost)).chooseRequest

/-- R136, R144 at the report that a nest's run became ACTIVE: PAUSED gate timers run again, and those with no time left expire
in this event; the engine, if idle, makes its choice. -/
def State.mseBecameActive (s : State) (n : Nest) : State :=
  let gone := s.mse.queue.filter fun r => r.id.nest == n && r.gate.spent
  let rest := s.mse.queue.filter fun r => !(r.id.nest == n && r.gate.spent)
  ((s.setQueue (rest.map fun r => if r.id.nest = n then { r with gate := r.gate.resume s.ms } else r)).endRequests gone
    .gateTimeout).chooseRequest

/-- R144 at the report that a nest's run became HELD. -/
def State.mseBecameHeld (s : State) (n : Nest) : State :=
  ((s.stopEngineIf fun id => id.nest == n).setQueue
    (s.mse.queue.map fun r => if r.id.nest = n then { r with gate := r.gate.pause s.ms } else r)).chooseRequest

/-- R145 at the report that a nest's run closed. -/
def State.mseClosed (s : State) (n : Nest) : State := s.withdrawRequests fun id => id.nest == n

/-! ## Commands (section 7.2) -/

/-- R131 step 1: the sample count or window is in range for the kind. -/
def amountOk (k : MeasureKind) (amount : Nat) : Bool :=
  if k.sampled then decide (1 ≤ amount ∧ amount ≤ 64) else decide (10 ≤ amount ∧ amount ≤ 10000)

/-- The fields of a request as REQUEST MEASUREMENT gives them. -/
structure MeasureSpec where
  kind : MeasureKind
  input : Fin 12
  retries : Nat
  gateLine : Fin 4
  gateEdge : EdgeSel
  corrected : Bool
  settle : Nat
  amount : Nat
  low : Quad
  high : Quad
deriving DecidableEq, Repr

/-- R131 step 1, Table 10-9: the parameters, or none where one is refused with RANGE. -/
def measureSpecOf (w1 : Word) (settle amount : Nat) (low high : Quad) : Option MeasureSpec :=
  match index? 12 (bitField w1 0 4), measureKindOf (bitField w1 4 3), index? 4 (bitField w1 10 2), edgeSelOf (bitField w1 12 2) with
  | some k, some kind, some l, some e =>
    if settle ≤ 1000 ∧ amountOk kind amount ∧ low.toInt ≤ high.toInt ∧ (flagBit w1 15 → kind = .level) then
      some ⟨kind, k, bitField w1 8 2, l, e, flagBit w1 15, settle, amount, low, high⟩
    else none
  | _, _, _, _ => none

/-- R130, R131 step 2: there is room for another request of the nest. -/
def Mse.room (m : Mse) (n : Nest) : Bool := m.queue.length < Config.requestCap && m.ofNest n < Config.requestShare

/-- R131 step 3: the nest's line whose role is SENSE with an input. -/
def Fxc.senseLine (f : Fxc) (k : Fin 12) : Option (Fin 32) := (List.finRange 32).find? fun i => f.lines[i].role == .sense k

/-- R131 steps 3 and 4: the code that refuses a request on an input, or none where its line can serve. -/
def Fxc.senseRefusal (f : Fxc) (k : Fin 12) : Option Code :=
  match f.senseLine k with
  | none => some .notRouted
  | some i => if f.lines[i].path = .lost then some .lineLost else none

/-- R132: the gate timer of a request that joins the queue. -/
def joiningGate (gated : Bool) (st : RunState) (now timeout : Nat) : RunTimer :=
  if !gated then .stopped else if st == .active then .running (now + timeout) else .paused timeout

/-- R132, R134: the entry and the request are created in one event, and the engine makes its choice if it is idle. -/
def State.joinQueue (s : State) (n : Nest) (kind : EntryKind) (tag : Word) (x : MeasureSpec) : State × Answer :=
  let run := s.run n
  let r : Request := {
    id := ⟨n, run.serial, run.nextSeq⟩, kind := x.kind, input := x.input, retries := x.retries, attempts := 1
    gateLine := x.gateLine, gateEdge := x.gateEdge, corrected := x.corrected, settle := x.settle, amount := x.amount
    low := x.low, high := x.high, seen := false
    gate := joiningGate (x.gateEdge != .none) run.state s.ms (s.mse.gateTimeout.get n) }
  let limits := if kind = .measure then some (x.low, x.high) else none
  accept ((s.setRun n (run.append (.created kind tag limits))).setQueue (s.mse.queue ++ [r])).chooseRequest [wordOfNat run.nextSeq]

/-- REQUEST MEASUREMENT (R131, R132). -/
def execRequestMeasurement (p : Port) (s : State) : Result :=
  .next (s.stationCommand p (named := paramBits (.requestMeasurement p)) fun n s => s.creating n (
    match measureSpecOf (s.param p 1) (s.param p 2).toNat (s.param p 3).toNat (s.param32 p 4 5) (s.param32 p 6 7) with
    | none => refuse s .range
    | some x =>
      if !s.mse.room n then refuse s .noSpace
      else
        match if x.kind.usesInput then (s.fix n).senseRefusal x.input else none with
        | some c => refuse s c
        | none => s.joinQueue n .measure (s.param p 0) x))

/-- R134: a ZERO request, with the fixed limits -2000 and +2000, no gate, no retries and no correction. -/
def zeroSpec (settle amount : Nat) : MeasureSpec where
  kind := .zero
  input := 0
  retries := 0
  gateLine := 0
  gateEdge := .none
  corrected := false
  settle := settle
  amount := amount
  low := BitVec.ofInt 32 (-2000)
  high := 2000#32

/-- CALIBRATE OFFSET (R134). -/
def execCalibrateOffset (p : Port) (s : State) : Result :=
  .next (s.stationCommand p fun n s => s.creating n (
    let settle := (s.param p 1).toNat
    let amount := (s.param p 2).toNat
    if !(decide (settle ≤ 1000) && amountOk .zero amount) then refuse s .range
    else if !s.mse.room n then refuse s .noSpace
    else s.joinQueue n .calibration (s.param p 0) (zeroSpec settle amount)))

/-- SET GATE TIMEOUT (R137). -/
def execSetGateTimeout (p : Port) (s : State) : Result :=
  .next (s.stationCommand p fun n s =>
    let v := (s.param p 0).toNat
    if v = 0 ∨ 60000 < v then refuse s .range
    else accept (s.setMse { s.mse with gateTimeout := s.mse.gateTimeout.set n v }) [])

/-- Table 10-11, READ MEASUREMENT STATUS: the engine state with the nest and sequence number of its request. -/
def Engine.statusWord : Engine → Word
  | .idle => 0#16
  | .working id _ (.settling _) => packWord [(1, 0, 2), (Nest.num id.nest, 2, 1), (id.seq, 8, 8)]
  | .working id _ (.measuring _ _ _) => packWord [(2, 0, 2), (Nest.num id.nest, 2, 1), (id.seq, 8, 8)]

/-- R148: requests of a nest that are gated and wait for their edge. -/
def Mse.waitingForEdge (m : Mse) (n : Nest) : Nat := m.queue.countP fun r => r.id.nest == n && r.gated && !r.seen

/-- Table 10-11, READ MEASUREMENT STATUS. -/
def Mse.statusWords (m : Mse) (n : Nest) : List Word :=
  [m.engine.statusWord,
   packWord [(m.queue.length, 0, 5), (m.ofNest .a, 8, 4), (m.ofNest .b, 12, 4)],
   highWord (BitVec.ofInt 32 (m.offset.get n)), lowWord (BitVec.ofInt 32 (m.offset.get n)),
   wordOfNat (m.gateTimeout.get n), wordOfNat (m.waitingForEdge n)]

/-- READ MEASUREMENT STATUS (R148). -/
def execReadMeasurementStatus (p : Port) (s : State) : Result :=
  .next (s.takeCommand p .anyPort fun s =>
    match s.namedNest p with
    | none => refuse s .range
    | some n => accept s (s.mse.statusWords n))

end Sys2Proof.Machine
end

