-- ==== Sys2Proof/Machine/Prompts.lean ====
section
/-! DEFINITION. The Prompt Unit: the prompt queue and system prompt slots, presentation, answers, timeouts and withdrawals, and its
commands (Chapter 8). -/

namespace Sys2Proof.Machine

/-! ## What is presented and what may be (R154) -/

/-- A prompt of either sort, with what names it. -/
inductive AnyPrompt where
  | system (n : Nest) (x : SysPrompt)
  | ordinary (x : Prompt)
deriving DecidableEq, Repr

def Presentation.ticket? : Presentation → Option Nat
  | .waiting => none
  | .presented t => some t

/-- The slots' prompts, Nest A's first. -/
def Pru.systems (u : Pru) : List AnyPrompt :=
  (u.slots.a.map (AnyPrompt.system .a)).toList ++ (u.slots.b.map (AnyPrompt.system .b)).toList

def Pru.all (u : Pru) : List AnyPrompt := u.systems ++ u.queue.map .ordinary

def AnyPrompt.pres : AnyPrompt → Presentation
  | .system _ x => x.pres
  | .ordinary x => x.pres

def AnyPrompt.nest : AnyPrompt → Nest
  | .system n _ => n
  | .ordinary x => x.id.nest

/-- R154: the presented prompt is the one whose presentation state is PRESENTED. -/
def Pru.presented? (u : Pru) : Option AnyPrompt := u.all.find? fun x => x.pres != .waiting

/-- R154: every WAITING system prompt, and every WAITING ordinary prompt whose nest's run is ACTIVE. -/
def AnyPrompt.presentable (active : Nest → Bool) : AnyPrompt → Bool
  | .system _ x => x.pres == .waiting
  | .ordinary x => x.pres == .waiting && active x.id.nest

def Pru.presentableSet (u : Pru) (active : Nest → Bool) : List AnyPrompt := u.all.filter (AnyPrompt.presentable active)

/-- R154: system prompts go first, then URGENT, then NORMAL ordinary prompts. -/
def AnyPrompt.rank : AnyPrompt → Nat
  | .system _ _ => 0
  | .ordinary x => if x.urgent then 1 else 2

/-- R150: how far back a prompt's number lies from the counter's value, counting modulo 65536. -/
def AnyPrompt.age (counter : BitVec 16) : AnyPrompt → Nat
  | .system _ x => (counter - x.posting).toNat
  | .ordinary x => (counter - x.arrival).toNat

/-- x goes before y: a lower rank, or the same rank and joined earlier. -/
def AnyPrompt.before (counter : BitVec 16) (x y : AnyPrompt) : Bool :=
  x.rank < y.rank || (x.rank == y.rank && y.age counter < x.age counter)

/-- The first of a list of prompts by the order of R154. -/
def firstPrompt (counter : BitVec 16) : List AnyPrompt → Option AnyPrompt
  | [] => none
  | x :: rest =>
    match firstPrompt counter rest with
    | none => some x
    | some y => if y.before counter x then some y else some x

def Pru.firstPresentable? (u : Pru) (active : Nest → Bool) : Option AnyPrompt := firstPrompt u.arrivals (u.presentableSet active)

/-- R157: the detail of PROMPT_READY. -/
def AnyPrompt.readyDetail : AnyPrompt → ReadyDetail
  | .system _ _ => .system
  | .ordinary x => if x.urgent then .urgent else .normal

/-- R157: PROMPT_READY is posted when the presentable set was empty, no prompt is presented, and the set is now not empty. -/
def State.announce (s : State) (wasEmpty : Bool) : State :=
  if wasEmpty && s.pru.presented?.isNone then
    match s.pru.firstPresentable? s.active with
    | some x => s.postOperator x.nest (.promptReady x.readyDetail)
    | none => s
  else s

/-- The presentable set is empty as the nests of active stand. -/
def Pru.noneReady (u : Pru) (active : Nest → Bool) : Bool := (u.presentableSet active).isEmpty

/-- R148, R150: ordinary prompts of one nest in the queue. -/
def Pru.ofNest (u : Pru) (n : Nest) : Nat := u.queue.countP fun x => x.id.nest == n

def State.setPrompts (s : State) (q : List Prompt) : State := s.setPru { s.pru with queue := q }

def State.setSlot (s : State) (n : Nest) (x : Option SysPrompt) : State := s.setPru { s.pru with slots := s.pru.slots.set n x }

/-- The queue with one prompt, named by its entry, changed by f. -/
def State.changePrompt (s : State) (id : WorkId) (f : Prompt → Prompt) : State :=
  s.setPrompts (s.pru.queue.map fun x => if x.id = id then f x else x)

/-- A prompt leaves the queue. -/
def State.removePrompt (s : State) (id : WorkId) : State := s.setPrompts (s.pru.queue.filter fun x => x.id != id)

/-! ## System prompts (R151) -/

/-- R41 step 5, R151: the nest's system prompt is placed in its slot, WAITING, and announced where R157 calls for it. -/
def State.postSystemPrompt (s : State) (n : Nest) (c : FaultCause) : State :=
  (s.setPru { s.pru with
    slots := s.pru.slots.set n (some ⟨4000 + c.num, s.pru.arrivals, .waiting⟩)
    arrivals := s.pru.arrivals + 1#16 }).announce (s.pru.noneReady s.active)

/-- R25, R31: a nest's slot holds a system prompt not yet acknowledged. -/
def State.awaitsOperator (s : State) (n : Nest) : Bool := (s.pru.slots.get n).isSome

/-! ## Presenting (R155, R156) -/

/-- R156: from 255 to 1, so that 0 is never given. -/
def ticketAfter (t : Nat) : Nat := if t = 255 then 1 else t + 1

/-- The answer timer at a presentation or a REPEAT: the full timeout from now, or STOPPED when the timeout is 0. -/
def answerTimer (timeout now : Nat) : Timer := if timeout = 0 then .stopped else .running (now + timeout * 1000)

/-- R155: the first presentable prompt becomes PRESENTED with the next ticket. -/
def State.present (s : State) (x : AnyPrompt) : State :=
  let t := s.pru.nextTicket
  let u := match x with
    | .system n y => s.setSlot n (some { y with pres := .presented t })
    | .ordinary y => s.changePrompt y.id fun z => { z with pres := .presented t, timer := answerTimer z.timeout s.ms }
  u.setPru { u.pru with nextTicket := ticketAfter t }

/-- R155: the seconds to a timer's expiry, rounded up, at least 1 for a running timer; 0 for no timer. -/
def secondsLeft (t : Timer) (now : Nat) : Nat :=
  match t with
  | .stopped => 0
  | .running e => max 1 ((e - now + 999) / 1000)

/-- Table 10-10. -/
def AnyPrompt.words (now : Nat) : AnyPrompt → List Word
  | .system n x =>
    [packWord [(x.code, 0, 12), (1, 12, 2), (Nest.num n, 14, 1)], packWord [(x.pres.ticket?.getD 0, 0, 8)]]
  | .ordinary x =>
    [packWord [(x.code, 0, 12), (2, 12, 2), (Nest.num x.id.nest, 14, 1), (flagNat x.urgent, 15, 1)],
     packWord [(x.pres.ticket?.getD 0, 0, 8), (x.attempts, 8, 3), (x.params.length, 12, 3)],
     packWord [(x.timeout, 0, 10), (x.answers.num, 12, 2)],
     wordOfNat (secondsLeft x.timer now)] ++ x.params

/-- TAKE PROMPT (R155). -/
def execTakePrompt (p : Port) (s : State) : Result :=
  .next (s.takeCommand p .operator fun s =>
    match s.pru.presented? with
    | some x => accept s (x.words s.ms)
    | none =>
      match s.pru.firstPresentable? s.active with
      | some x =>
        let t := s.present x
        accept t ((t.pru.presented?.map (AnyPrompt.words t.ms)).getD [])
      | none => accept s [])

/-! ## Answers (R158 to R161) -/

/-- R158: the answers each answer set admits. -/
def AnswerSet.admits : AnswerSet → PromptAnswer → Bool
  | .ackOnly, .ack => true
  | .yesNo, .yes | .yesNo, .no => true
  | .yesNoRepeat, .yes | .yesNoRepeat, .no | .yesNoRepeat, .again => true
  | .ackOnly, .yes | .ackOnly, .no | .ackOnly, .again | .yesNo, .ack | .yesNo, .again | .yesNoRepeat, .ack => false

/-- R159: the result of an answer that settles; REPEAT settles nothing. -/
def PromptAnswer.result? (a : PromptAnswer) (attempts : Nat) : Option WorkResult :=
  match a with
  | .ack => some ⟨.pass, .answerAck, attempts, none⟩
  | .yes => some ⟨.pass, .answerYes, attempts, none⟩
  | .no => some ⟨.fail, .answerNo, attempts, none⟩
  | .again => none

/-- R43: the FXC sets its release permit if the fixture is in FAULT. -/
def State.acknowledged (s : State) (n : Nest) : State :=
  if (s.fix n).state = .fault then s.setFix n { s.fix n with permit := true } else s

/-- R159: an ordinary prompt is settled by ACK, YES or NO. -/
def State.settlePrompt (s : State) (x : Prompt) (r : WorkResult) : State := (s.removePrompt x.id).result x.id r

/-- R160: REPEAT moves the channels of the repeat mask, counts an attempt, reports it, and restarts the answer timer. -/
def State.repeatPrompt (s : State) (x : Prompt) : State :=
  (((s.softCommit x.id.nest x.repeatMask).changePrompt x.id fun y => { y with attempts := y.attempts + 1 }).progress x.id
    (x.attempts + 1)).changePrompt x.id fun y => { y with timer := answerTimer y.timeout s.ms }

/-- The response of an answer or a decline: the number of presentable prompts after it (R158, R161). -/
def State.presentableCount (s : State) : Nat := (s.pru.presentableSet s.active).length

/-- A taken answer, with its response. -/
def acceptAnswer (s : State) : State × Answer := accept s [wordOfNat s.presentableCount]

/-- R158 step 1: the presented prompt, if the ticket quoted is its ticket. -/
def Pru.ticketed? (u : Pru) (ticket : Word) : Option AnyPrompt :=
  u.presented?.filter fun x => x.pres == .presented ticket.toNat

/-- ANSWER PROMPT (R158 to R160). -/
def execAnswerPrompt (p : Port) (s : State) : Result :=
  .next (s.takeCommand p .operator fun s =>
    match s.pru.ticketed? (s.param p 0), promptAnswerOf (s.param p 1).toNat with
    | none, _ => refuse s .stale
    | some _, none => refuse s .range
    | some (.system n _), some a =>
      if AnswerSet.ackOnly.admits a then acceptAnswer ((s.setSlot n none).acknowledged n) else refuse s .range
    | some (.ordinary x), some a =>
      if !x.answers.admits a then refuse s .range
      else
        match a.result? x.attempts with
        | some r => acceptAnswer (s.settlePrompt x r)
        | none => if 4 ≤ x.attempts then refuse s .limit else acceptAnswer (s.repeatPrompt x))

/-- DECLINE PROMPT (R161). -/
def execDeclinePrompt (p : Port) (s : State) : Result :=
  .next (s.takeCommand p .operator fun s =>
    match s.pru.ticketed? (s.param p 0) with
    | none => refuse s .stale
    | some (.system _ _) => refuse s .wrongState
    | some (.ordinary x) => acceptAnswer (s.settlePrompt x ⟨.noResult, .withdrawn, x.attempts, none⟩))

/-! ## Timeouts, holds, withdrawals (R162 to R164) -/

/-- ANSWER TIMER EXPIRY (R162). -/
def execAnswerTimerExpiry (s : State) : Result :=
  .next (match s.pru.presented? with
    | some (.ordinary x) =>
      if x.timer.due s.ms then
        (s.settlePrompt x ⟨.noResult, .timeout, x.attempts, none⟩).postOperator x.id.nest
          (.promptWithdrawn (x.pres.ticket?.getD 0) .timeout)
      else s
    | some (.system _ _) | none => s)

/-- PROMPT_WITHDRAWN for the presented prompt, if it is an ordinary one for which c holds. -/
def State.noticeWithdrawn (s : State) (c : WorkId → Bool) (d : WithdrawDetail) : State :=
  match s.pru.presented? with
  | some (.ordinary x) =>
    if c x.id then s.postOperator x.id.nest (.promptWithdrawn (x.pres.ticket?.getD 0) d) else s
  | some (.system _ _) | none => s

/-- R164: ordinary prompts are withdrawn; a presented one with PROMPT_WITHDRAWN. No result is sent. -/
def State.withdrawPrompts (s : State) (c : WorkId → Bool) (d : WithdrawDetail) : State :=
  (s.noticeWithdrawn c d).setPrompts (s.pru.queue.filter fun x => !c x.id)

/-- R163 at the report that a nest's run became HELD: its presented ordinary prompt is returned to its place in the queue. -/
def State.pruBecameHeld (s : State) (n : Nest) : State :=
  (s.noticeWithdrawn (fun id => id.nest == n) .held).setPrompts
    (s.pru.queue.map fun x => if x.id.nest = n then { x with pres := .waiting, timer := .stopped } else x)

/-- R163 at the report that a nest's run became ACTIVE: before it the nest's ordinary prompts were not presentable. -/
def State.pruBecameActive (s : State) (n : Nest) : State :=
  s.announce (s.pru.noneReady fun m => m != n && s.active m)

/-! ## Posting (R152, R153) -/

/-- The fields of a prompt as POST PROMPT gives them. -/
structure PromptSpec where
  code : Nat
  answers : AnswerSet
  urgent : Bool
  params : List Word
  timeout : Nat
  repeatMask : Word
deriving DecidableEq, Repr

/-- R152 step 1, Table 10-9: the parameters, or none where one is refused with RANGE. -/
def promptSpecOf (w1 w2 : Word) (params : List Word) (repeatMask : Word) : Option PromptSpec :=
  match answerSetOf (bitField w1 12 2) with
  | none => none
  | some a =>
    if bitField w1 0 12 ≤ 3999 ∧ bitField w2 12 3 ≤ 4 ∧ bitField w2 0 10 ≤ 600 then
      some ⟨bitField w1 0 12, a, flagBit w1 15, params.take (bitField w2 12 3), bitField w2 0 10, repeatMask⟩
    else none

/-- R152 step 2. -/
def Pru.room (u : Pru) (n : Nest) : Bool := u.queue.length < Config.promptCap && u.ofNest n < Config.promptShare

/-- R153. -/
def State.joinPrompts (s : State) (n : Nest) (tag : Word) (x : PromptSpec) : State × Answer :=
  let run := s.run n
  let y : Prompt := {
    id := ⟨n, run.serial, run.nextSeq⟩, tag := tag, code := x.code, answers := x.answers, urgent := x.urgent, params := x.params
    timeout := x.timeout, repeatMask := x.repeatMask, attempts := 1, arrival := s.pru.arrivals, pres := .waiting, timer := .stopped }
  accept (((s.setRun n (run.append (.created .prompt tag none))).setPru
    { s.pru with queue := s.pru.queue ++ [y], arrivals := s.pru.arrivals + 1#16 }).announce (s.pru.noneReady s.active))
    [wordOfNat run.nextSeq]

/-- POST PROMPT (R152, R153). -/
def execPostPrompt (p : Port) (s : State) : Result :=
  .next (s.stationCommand p (named := paramBits (.postPrompt p)) fun n s => s.creating n (
    match promptSpecOf (s.param p 1) (s.param p 2) [s.param p 3, s.param p 4, s.param p 5, s.param p 6] (s.param p 7) with
    | none => refuse s .range
    | some x => if !s.pru.room n then refuse s .noSpace else s.joinPrompts n (s.param p 0) x))

/-! ## Status (R165) -/

/-- Table 10-11, READ PROMPT QUEUE: the presented prompt, and the sequence number of an ordinary one. -/
def Pru.presentedWords (u : Pru) : List Word :=
  match u.presented? with
  | none => [0#16, 0#16]
  | some (.system n x) => [packWord [(x.pres.ticket?.getD 0, 0, 8), (1, 12, 2), (Nest.num n, 14, 1)], 0#16]
  | some (.ordinary x) =>
    [packWord [(x.pres.ticket?.getD 0, 0, 8), (2, 12, 2), (Nest.num x.id.nest, 14, 1)], wordOfNat x.id.seq]

/-- Table 10-11: one slot. -/
def slotWord (x : Option SysPrompt) : Word := packWord [((x.map (·.code)).getD 0, 0, 12), (flagNat x.isSome, 15, 1)]

/-- READ PROMPT QUEUE (R165). -/
def execReadPromptQueue (p : Port) (s : State) : Result :=
  .next (s.takeCommand p .anyPort fun s =>
    accept s (s.pru.presentedWords ++
      [packWord [(s.pru.queue.length, 0, 4), (s.pru.ofNest .a, 4, 3), (s.pru.ofNest .b, 8, 3), (s.presentableCount, 12, 4)],
       slotWord s.pru.slots.a, slotWord s.pru.slots.b, wordOfNat s.pru.nextTicket]))

end Sys2Proof.Machine
end

