-- ==== Sys2Proof/Machine/Run.lean ====
section
/-! DEFINITION. The Run Controllers: reports of run-state changes, holds and closes, and the run commands (Chapter 1). -/

namespace Sys2Proof.Machine

/-! ## Reports (R13, Table 1-5): to the STU, the MSE, the PRU and the BEU, in this order (log 11) -/

/-- Became ACTIVE through OPEN RUN. -/
def State.reportOpened (s : State) (n : Nest) : State :=
  ((((s.paceOpened n).syncGenerators).mseBecameActive n).pruBecameActive n).beuBecameActive n

/-- Became ACTIVE through RESUME RUN. -/
def State.reportResumed (s : State) (n : Nest) : State :=
  ((((s.paceResumed n).syncGenerators).mseBecameActive n).pruBecameActive n).beuBecameActive n

/-- Became HELD. -/
def State.reportHeld (s : State) (n : Nest) : State :=
  ((((s.paceHeld n).syncGenerators).mseBecameHeld n).pruBecameHeld n).beuBecameHeld n

/-- Closed: every operation the blocks hold for the nest is withdrawn. -/
def State.reportClosed (s : State) (n : Nest) (d : WithdrawDetail) : State :=
  (((((s.paceClosed n).giveUpWhere n fun _ => true).mseClosed n).withdrawPrompts (fun id => id.nest == n) d).withdrawWatches n)
    fun _ => true

/-! ## Changes of run state -/

/-- R3, R4: the run becomes HELD; the report, then RUN_STATE. -/
def State.holdRun (s : State) (n : Nest) (d : RunDetail) : State :=
  ((s.setRun n { s.run n with state := .held }).reportHeld n).postStation n (.runState .held d)

/-- The ways a run closes (R6): the run state it takes, its end cause, the detail of the entries it settles, the detail of
RUN_STATE (Table 1-1), and the detail of PROMPT_WITHDRAWN (R164). -/
def EndCause.closedState : EndCause → RunState
  | .hostEnd => .ended
  | .none | .hostAbort | .operator | .fixture | .holdLimit | .stop => .aborted

def EndCause.entryDetail : EndCause → EntryDetail
  | .hostEnd => .ended
  | .none | .hostAbort | .operator | .fixture | .holdLimit | .stop => .aborted

def EndCause.withdrawDetail : EndCause → WithdrawDetail
  | .hostEnd => .ended
  | .none | .hostAbort | .operator | .fixture | .holdLimit | .stop => .aborted

/-- Table 1-1. No run closes with end cause NONE. -/
def EndCause.runDetail : EndCause → RunDetail
  | .hostEnd => .hostEnd
  | .hostAbort | .none => .hostAbort
  | .operator => .operator
  | .fixture => .fixture
  | .holdLimit => .holdLimit
  | .stop => .stop

/-- R6 steps 1 to 4 on the record. -/
def Rnc.close (r : Rnc) (cause : EndCause) (clock : Quad) : Rnc :=
  let settled := Rnc.settlePending { r with state := cause.closedState, endCause := cause, endTime := some clock } cause.entryDetail clock
  { settled with verdict := if cause = .hostEnd then settled.computeVerdict else .aborted }

/-- R6: the procedure of a close. -/
def State.closeRun (s : State) (n : Nest) (cause : EndCause) : State :=
  ((s.setRun n ((s.run n).close cause s.clock)).reportClosed n cause.withdrawDetail).postStation n
    (.runState cause.closedState cause.runDetail)

/-- R4: a contact-loss report. -/
def State.contactLoss (s : State) (n : Nest) : State :=
  let r := s.run n
  let count := min Config.holdLimit (r.holdCount + 1)
  let t := s.setRun n { r with holdCount := count }
  if !r.state.isOpen then s
  else if Config.holdLimit ≤ count then t.closeRun n .holdLimit
  else if r.state = .active then t.holdRun n .contactLoss
  else t

/-- R11: a fault report aborts an ACTIVE or HELD run, with end cause STOP or FIXTURE. -/
def State.faultReport (s : State) (n : Nest) (c : FaultCause) : State :=
  if (s.run n).state.isOpen then s.closeRun n (if c = .stop then .stop else .fixture) else s

/-! ## Run commands -/

/-- R2: at least one used line of the nest has its worn flag set. -/
def Fxc.wornLine (f : Fxc) : Bool := f.lines.toList.any fun l => l.used && l.worn

/-- R2: the header OPEN RUN fills. -/
def Rnc.opened (r : Rnc) (unit : Quad) (plan limit : Word) (clock : Quad) : Rnc where
  state := .active
  serial := r.serial + 1#16
  unit := unit
  plan := plan
  verdict := .none
  endCause := .none
  holdCount := 0
  busErrors := 0
  busLimit := limit.toNat
  openTime := some clock
  endTime := none
  entries := []

/-- OPEN RUN (R2). -/
def execOpenRun (p : Port) (s : State) : Result :=
  .next (s.stationCommand p fun n s =>
    if (s.run n).state ≠ .idle then refuse s .wrongState
    else if s.stop then refuse s .stopped
    else if (s.fix n).state ≠ .contacted then refuse s .wrongState
    else
      accept (((s.setRun n ((s.run n).opened (s.param32 p 0 1) (s.param p 2) (s.param p 3) s.clock)).reportOpened n).postStation n
        (.runState .active .opened)) [highWord s.clock, lowWord s.clock, wordOfNat (flagNat (s.fix n).wornLine)])

/-- HOLD RUN (R3). -/
def execHoldRun (p : Port) (s : State) : Result :=
  .next (s.stationCommand p fun n s =>
    if (s.run n).state ≠ .active then refuse s .wrongState else accept (s.holdRun n .hostHold) [])

/-- RESUME RUN (R5). -/
def execResumeRun (p : Port) (s : State) : Result :=
  .next (s.stationCommand p fun n s =>
    if (s.run n).state ≠ .held ∨ (s.fix n).state ≠ .contacted then refuse s .wrongState
    else
      accept (((s.setRun n { s.run n with state := .active }).reportResumed n).postStation n (.runState .active .resumed)) [])

/-- END RUN (R7). -/
def execEndRun (p : Port) (s : State) : Result :=
  .next (s.stationCommand p fun n s =>
    if !(s.run n).state.isOpen then refuse s .wrongState
    else accept (s.closeRun n .hostEnd) [wordOfNat ((s.run n).close .hostEnd s.clock).verdict.num])

/-- ABORT RUN (R9). -/
def execAbortRun (p : Port) (s : State) : Result :=
  .next (s.stationCommand p fun n s =>
    if !(s.run n).state.isOpen then refuse s .wrongState else accept (s.closeRun n .hostAbort) [])

/-- OPERATOR ABORT (R10). -/
def execOperatorAbort (p : Port) (s : State) : Result :=
  .next (s.takeCommand p .operator fun s =>
    match nestOfParam (s.param p 0) with
    | none => refuse s .range
    | some n => if !(s.run n).state.isOpen then refuse s .wrongState else accept (s.closeRun n .operator) [])

/-- RELEASE RUN (R12): the record is cleared; the run serial does not change. The report changes nothing in any block (Table 1-5). -/
def execReleaseRun (p : Port) (s : State) : Result :=
  .next (s.stationCommand p fun n s =>
    match (s.run n).state with
    | .ended | .aborted => accept ((s.setRun n (.idle (s.run n).serial)).postStation n (.runState .idle .released)) []
    | .idle | .active | .held => refuse s .wrongState)

/-- R22: a NOTE entry. -/
def noteEntry (tag : Word) (o : EntryOutcome) (value : Option Quad) (clock : Quad) : Entry where
  kind := .note
  tag := tag
  outcome := o
  detail := .none
  attempts := 1
  value := value
  limits := none
  done := some clock

/-- POST VERDICT (R22). -/
def execPostVerdict (p : Port) (s : State) : Result :=
  .next (s.stationCommand p (named := paramBits (.postVerdict p)) fun n s => s.creating n (
    match verdictOutcomeOf (s.param p 1).toNat with
    | none => refuse s .range
    | some o =>
      accept (s.setRun n ((s.run n).append (noteEntry (s.param p 0) o
        (if flagBit (s.param p 2) 0 then some (s.param32 p 3 4) else none) s.clock))) [wordOfNat (s.run n).nextSeq]))

/-- R21: the owner of an entry's work withdraws it. -/
def State.orderWithdrawal (s : State) (k : EntryKind) (id : WorkId) : State :=
  match k with
  | .measure | .calibration => s.withdrawRequests fun x => x == id
  | .prompt => s.withdrawPrompts (fun x => x == id) .cancelled
  | .busExpect | .busForbid => s.withdrawWatches id.nest fun x => x == id
  | .note => s

/-- CANCEL ENTRY (R21). -/
def execCancelEntry (p : Port) (s : State) : Result :=
  .next (s.stationCommand p fun n s =>
    let r := s.run n
    let seq := (s.param p 0).toNat
    if !r.state.isOpen then refuse s .wrongState
    else
      match r.entry? seq with
      | none => refuse s .range
      | some e =>
        if !e.isPending then refuse s .wrongState
        else
          accept ((s.setRun n (r.setEntry seq (e.noResult .cancelled s.clock))).orderWithdrawal e.kind ⟨n, r.serial, seq⟩) [])

/-- READ RECORD (R24). -/
def execReadRecord (p : Port) (s : State) : Result :=
  .next (s.stationCommand p fun n s => (s, .sendOut (s.run n).stream))

/-- READ NEST STATUS (R25). -/
def execReadNestStatus (p : Port) (s : State) : Result :=
  .next (s.takeCommand p .anyPort fun s =>
    match s.namedNest p with
    | none => refuse s .range
    | some n =>
      let r := s.run n
      accept s [wordOfNat r.state.num, wordOfNat (s.fix n).state.num, wordOfNat r.holdCount, wordOfNat r.entries.length,
        wordOfNat r.pendingCount, wordOfNat (flagNat (s.awaitsOperator n))])

end Sys2Proof.Machine
end

