-- ==== Sys2Proof/Machine/Fixture.lean ====
section
/-! DEFINITION. The Fixture Controllers: the fixture cycle (Chapter 2), the probe map, the continuity scan, wear and the fixture
data (Chapter 3). -/

namespace Sys2Proof.Machine

/-! ## Shared operations -/

/-- R45: FIXTURE_STATE names the state where the fixture comes to rest. -/
def State.postFixture (s : State) (n : Nest) (d : FixtureDetail) : State :=
  s.postStation n (.fixtureState (s.fix n).state d)

/-- R35: a running scan is abandoned with nothing applied. -/
def Fxc.abandonScan (f : Fxc) : Fxc :=
  match f.scan with
  | some _ => { f with scan := none, scanResult := .abandoned, firstFail := none }
  | none => f

/-- R41 steps 1 to 3. -/
def Fxc.faulted (f : Fxc) (c : FaultCause) : Fxc :=
  { f.abandonScan with state := .fault, clampTimer := .stopped, releaseTimer := .stopped, cause := c, permit := false }

/-- R41: the procedure of entering FAULT. -/
def State.enterFault (s : State) (n : Nest) (c : FaultCause) : State :=
  (((s.setFix n ((s.fix n).faulted c)).postFixture n (.fault c)).postSystemPrompt n c).faultReport n c

/-- R40: the fixture states in which an opened lid and STOP fault the fixture. -/
def FixtureState.interruptible : FixtureState → Bool
  | .closing | .clamped | .scanning | .contacted => true
  | .opened | .releasing | .fault => false

/-- R40: the fixture states in which the loss of CLOSED faults the fixture. -/
def FixtureState.clampHeld : FixtureState → Bool
  | .clamped | .scanning | .contacted => true
  | .opened | .closing | .releasing | .fault => false

/-! ## Commands of the fixture cycle -/

/-- R31: the closing motion; with CLOSED already sensed the fixture passes on to CLAMPED at once. -/
def Fxc.startClamp (f : Fxc) (now : Nat) : Fxc :=
  if f.closed then { f with state := .clamped, clampTimer := .stopped }
  else { f with state := .closing, clampTimer := .running (now + f.clampTimeout) }

/-- R38, R44, R47: the release; with HOME already sensed the fixture passes on to OPEN at once. -/
def Fxc.startRelease (f : Fxc) (now : Nat) : Fxc :=
  if f.home then { f with state := .opened, releaseTimer := .stopped }
  else { f with state := .releasing, releaseTimer := .running (now + f.releaseTimeout) }

/-- CLAMP (R31). -/
def execClamp (p : Port) (s : State) : Result :=
  .next (s.stationCommand p fun n s =>
    let f := s.fix n
    if s.awaitsOperator n then refuse s .awaitOperator
    else if f.state ≠ .opened then refuse s .wrongState
    else if s.stop then refuse s .stopped
    else if !f.lid then refuse s .wrongState
    else accept ((s.setFix n (f.startClamp s.ms)).postFixture n .clampStarted) [])

/-- R53: every used line whose path is not LOST, ascending. -/
def Fxc.scanSet (f : Fxc) : List (Fin 32) :=
  (List.finRange 32).filter fun k => f.lines[k].used && f.lines[k].path != .lost

/-- R33, R53: a scan begins with the settle time and a working view copied from the map. -/
def Fxc.beginScan (f : Fxc) (now : Nat) : Scan where
  target := .settle
  due := now + Config.scanSettle
  todo := f.scanSet
  tested := f.scanSet
  paths := f.lines.map Line.path
  marks := f.lines.map Line.mark
  spares := f.spares
  failedSpares := []
  firstFail := none
  lost := []

/-- SCAN (R33). -/
def execScan (p : Port) (s : State) : Result :=
  .next (s.stationCommand p fun n s =>
    let f := s.fix n
    if f.state ≠ .clamped ∨ f.pressure = false then refuse s .wrongState
    else accept ((s.setFix n { f with state := .scanning, scan := some (f.beginScan s.ms) }).postFixture n .scanStarted) [])

/-- R38, R44: a release that is taken. -/
def State.releaseFixture (s : State) (n : Nest) : State × Answer :=
  accept ((s.setFix n ((s.fix n).startRelease s.ms)).postFixture n .unclamp) []

/-- UNCLAMP (R38, R44). -/
def execUnclamp (p : Port) (s : State) : Result :=
  .next (s.stationCommand p fun n s =>
    match (s.fix n).state with
    | .clamped => s.releaseFixture n
    | .contacted => if (s.run n).state.isOpen then refuse s .wrongState else s.releaseFixture n
    | .fault => if (s.fix n).permit then s.releaseFixture n else refuse s .awaitOperator
    | .opened | .closing | .scanning | .releasing => refuse s .wrongState)

/-- R30. -/
def fixtureTimeoutOk (v : Nat) : Bool := decide (100 ≤ v ∧ v ≤ 5000)

/-- SET FIXTURE TIMING (R30). -/
def execSetFixtureTiming (p : Port) (s : State) : Result :=
  .next (s.stationCommand p fun n s =>
    let c := (s.param p 0).toNat
    let r := (s.param p 1).toNat
    if fixtureTimeoutOk c && fixtureTimeoutOk r then
      accept (s.setFix n { s.fix n with clampTimeout := c, releaseTimeout := r }) []
    else refuse s .range)

/-- Table 10-11, READ FIXTURE STATUS. -/
def Fxc.statusWords (f : Fxc) : List Word :=
  [packWord [(f.state.num, 0, 3), (f.cause.num, 4, 3), (flagNat f.permit, 7, 1), (flagNat f.lid, 8, 1), (flagNat f.home, 9, 1),
     (flagNat f.closed, 10, 1), (flagNat f.pressure, 11, 1), (flagNat f.state.clampDrive, 12, 1),
     (flagNat f.state.supplyRelay, 13, 1)],
   wordOfNat f.clampTimeout, wordOfNat f.releaseTimeout,
   packWord [(f.scanResult.num, 0, 3), ((f.firstFail.map Fin.val).getD 0, 8, 5), (flagNat f.firstFail.isSome, 15, 1)]]

/-- READ FIXTURE STATUS (R46). -/
def execReadFixtureStatus (p : Port) (s : State) : Result :=
  .next (s.stationCommand p fun n s => accept s (s.fix n).statusWords)

/-! ## Probe line commands -/

/-- R48: the roles that at most one line of a nest may have with one argument. -/
def Role.exclusive : Role → Bool
  | .stim _ | .sense _ => true
  | .unused | .bus | .supply => false

/-- R51, R63: another line than k has the exclusive role r. A LOST line still holds its role. -/
def duplicateRole (lines : Vector Line 32) (k : Fin 32) (r : Role) : Bool :=
  r.exclusive && (List.finRange 32).any fun j => j != k && lines[j].role == r

/-- R51: the line's role takes the value, its path is PRIMARY and its mark 0; a spare it held becomes FREE. -/
def Fxc.writeLine (f : Fxc) (k : Fin 32) (r : Role) : Fxc :=
  { f with
    lines := f.lines.set k { f.lines[k] with role := r, path := .primary, mark := false }
    spares := f.spares.map fun x => if x = some k then none else x }

/-- WRITE PROBE LINE (R51). -/
def execWriteProbeLine (p : Port) (s : State) : Result :=
  .next (s.stationCommand p fun n s =>
    let f := s.fix n
    if (s.run n).state ≠ .idle ∨ f.state ≠ .opened then refuse s .wrongState
    else
      match index? 32 (s.param p 0).toNat, roleOf (s.param p 1).toNat (s.param p 2).toNat with
      | some k, some r => if duplicateRole f.lines k r then refuse s .duplicate else accept (s.setFix n (f.writeLine k r)) []
      | _, _ => refuse s .range)

/-- The response of READ PROBE LINE, one word for each field in the order of R52, the contact count in two words (log 9). -/
def Line.recordWords (l : Line) : List Word :=
  [wordOfNat l.role.num, wordOfNat l.role.arg, wordOfNat l.path.num, wordOfNat l.path.spareNum, wordOfNat (flagNat l.mark)] ++
  natWords l.count ++ [wordOfNat (flagNat l.worn)]

/-- READ PROBE LINE (R52). -/
def execReadProbeLine (p : Port) (s : State) : Result :=
  .next (s.stationCommand p fun n s =>
    match index? 32 (s.param p 0).toNat with
    | none => refuse s .range
    | some k => accept s (s.fix n).lines[k].recordWords)

/-! ## Wear (section 3.6) -/

/-- R60: the worn flag from the count and the limit. -/
def Line.setWorn (l : Line) (limit : Nat) : Line := { l with worn := decide (limit ≤ l.count) }

/-- R60: the lines whose worn flag is clear in the map and set in new, ascending. -/
def Fxc.newlyWorn (f : Fxc) (new : Vector Line 32) : List (Fin 32) :=
  (List.finRange 32).filter fun k => !f.lines[k].worn && new[k].worn

/-- R60, R65: the map takes new lines, with a WEAR notice for each line whose worn flag becomes set. -/
def State.wearLines (s : State) (n : Nest) (new : Vector Line 32) : State :=
  (s.setFix n { s.fix n with lines := new }).postAll n (((s.fix n).newlyWorn new).map .wear)

/-- SET WEAR LIMIT (R60). -/
def execSetWearLimit (p : Port) (s : State) : Result :=
  .next (s.stationCommand p fun n s =>
    let v := (s.param32 p 0 1).toNat
    if v = 0 ∨ Config.wearLimitMax < v then refuse s .range
    else
      let f := s.fix n
      accept ((s.setFix n { f with wearLimit := v }).wearLines n (f.lines.map fun l => l.setWorn v)) [])

/-- R59: one more contact of a used line; the count saturates. -/
def Line.contacted (l : Line) (limit : Nat) : Line :=
  if l.used then Line.setWorn { l with count := min Config.contactCap (l.count + 1) } limit else l

/-! ## Fixture data (section 3.7) -/

/-- READ FIXTURE DATA (R61). -/
def execReadFixtureData (p : Port) (s : State) : Result :=
  .next (s.stationCommand p fun n s => (s, .sendOut (s.fix n).dataWords))

/-- RESTORE FIXTURE DATA (R62): opens an incoming transfer of 138 words. -/
def execRestoreFixtureData (p : Port) (s : State) : Result :=
  .next (s.stationCommand p fun n s =>
    if (s.run n).state ≠ .idle ∨ (s.fix n).state ≠ .opened then refuse s .wrongState
    else (s, .takeIn (.fixtureData n) 138))

/-- R63 step 1, Table 10-7: the record four words give, with its worn flag from the count and the limit; none where they break a
range (the count is checked as the whole 32-bit quantity, log 19). -/
def lineOfWords (limit : Nat) (w0 w1 w2 w3 : Word) : Option Line :=
  match roleOf (bitField w0 0 3) (bitField w0 8 4), pathOf (bitField w1 0 2) (bitField w1 4 3) with
  | some r, some q =>
    let mark := flagBit w1 8
    let count := (quadOf w2 w3).toNat
    if count ≤ Config.contactCap ∧ (r = .unused → q = .primary ∧ mark = false) ∧ (q = .lost → mark = false) then
      some ⟨r, q, mark, count, decide (limit ≤ count)⟩
    else none
  | _, _ => none

/-- R63 step 1: a spare word is FREE or a line number. -/
def spareOfWord (w : Word) : Option (Option (Fin 32)) := if w = 0xFFFF#16 then some none else (index? 32 w.toNat).map some

/-- The contents of a block of fixture data. -/
structure FixtureData where
  limit : Nat
  lines : Vector Line 32
  spares : Vector (Option (Fin 32)) 6
deriving DecidableEq, Repr

/-- R63 step 1: the contents of 138 words, or none where a range is broken. -/
def fixtureDataOf (d : Nat → Word) : Option FixtureData :=
  let limit := (quadOf (d 2) (d 3)).toNat
  let lines := Vector.ofFn fun k : Fin 32 =>
    lineOfWords limit (d (4 + 4 * k.val)) (d (5 + 4 * k.val)) (d (6 + 4 * k.val)) (d (7 + 4 * k.val))
  let spares := Vector.ofFn fun i : Fin 6 => spareOfWord (d (132 + i.val))
  if d 0 = 1#16 ∧ d 1 = 32#16 ∧ 1 ≤ limit ∧ limit ≤ Config.wearLimitMax ∧ lines.all Option.isSome = true ∧
      spares.all Option.isSome = true then
    some ⟨limit, lines.map fun x => x.getD Line.unusedLine, spares.map fun x => x.getD none⟩
  else none

/-- R50, R63 step 2: a line's path is SPARE(s) exactly when spare s names it. -/
def poolConsistent (lines : Vector Line 32) (spares : Vector (Option (Fin 32)) 6) : Bool :=
  ((List.finRange 32).all fun k =>
    match lines[k].path with
    | .spare i => spares[i] == some k
    | .primary | .lost => true) &&
  (List.finRange 6).all fun i =>
    match spares[i] with
    | some k => lines[k].path == .spare i
    | none => true

/-- R63 step 3: two lines have the same exclusive role. -/
def anyDuplicate (lines : Vector Line 32) : Bool := (List.finRange 32).any fun k => duplicateRole lines k lines[k].role

/-- R63: the 138th word of a RESTORE FIXTURE DATA has arrived. -/
def State.applyFixtureData (s : State) (n : Nest) (words : List Word) : State × Answer :=
  match fixtureDataOf fun i => words.getD i 0#16 with
  | none => refuse s .range
  | some x =>
    if !poolConsistent x.lines x.spares then refuse s .range
    else if anyDuplicate x.lines then refuse s .duplicate
    else accept (s.setFix n { s.fix n with lines := x.lines, spares := x.spares, wearLimit := x.limit }) []

/-! ## The continuity scan (section 3.4) -/

/-- R53: the next line is connected, or the scan has no test left. -/
def Scan.advance (sc : Scan) : Scan :=
  match sc.todo with
  | [] => { sc with target := .finished }
  | k :: rest => { sc with target := .line k, due := sc.due + Config.scanTest, todo := rest }

/-- R56: the lowest-numbered line whose test failed; lines are tested in ascending order. -/
def Scan.noteFail (sc : Scan) (k : Fin 32) : Scan :=
  { sc with firstFail := match sc.firstFail with
    | some j => some j
    | none => some k }

/-- R54, R55: a line becomes LOST in the working view. -/
def Scan.lose (sc : Scan) (k : Fin 32) (c : LossCause) : Scan :=
  { sc with paths := sc.paths.set k .lost, marks := sc.marks.set k false, lost := sc.lost ++ [(k, c)] }

/-- R54, R55: a spare that failed a test is FREE and not offered again in this scan. -/
def Scan.failSpare (sc : Scan) (i : Fin 6) : Scan :=
  { sc with spares := sc.spares.set i none, failedSpares := sc.failedSpares ++ [i] }

/-- R55: the spares FREE in the working view that have not failed a test in this scan, ascending. -/
def Scan.available (sc : Scan) : List (Fin 6) :=
  (List.finRange 6).filter fun i => sc.spares[i].isNone && !sc.failedSpares.contains i

/-- R55: a retirement. A critical line may take the last available spare, a non-critical line needs two. -/
def Scan.retire (sc : Scan) (critical : Bool) (k : Fin 32) : Scan :=
  match sc.available with
  | [] => (sc.lose k .noSpare).advance
  | i :: rest =>
    if critical || !rest.isEmpty then
      { sc with spares := sc.spares.set i (some k), target := .spare k i, due := sc.due + Config.scanTest }
    else (sc.lose k .noSpare).advance

/-- R54, Table 3-2: a test of line k on its working path ends. A LOST path is not tested. -/
def Scan.lineTested (sc : Scan) (critical : Bool) (k : Fin 32) (pass : Bool) : Scan :=
  if pass then { sc with marks := sc.marks.set k false }.advance
  else if sc.marks[k] = false then (Scan.noteFail { sc with marks := sc.marks.set k true } k).advance
  else
    match sc.paths[k] with
    | .primary => (sc.noteFail k).retire critical k
    | .spare i => (((sc.noteFail k).failSpare i).lose k .sparePathFailed).advance
    | .lost => sc.advance

/-- R55: the test of a retired line's chosen spare ends. -/
def Scan.spareTested (sc : Scan) (k : Fin 32) (i : Fin 6) (pass : Bool) : Scan :=
  if pass then { sc with paths := sc.paths.set k (.spare i), marks := sc.marks.set k false }.advance
  else ((sc.failSpare i).lose k .spareFailed).advance

/-- R53: the end of the settle time or of a test. -/
def Scan.testEnd (sc : Scan) (lines : Vector Line 32) (pass : Bool) : Scan :=
  match sc.target with
  | .settle => sc.advance
  | .line k => sc.lineTested lines[k].critical k pass
  | .spare k i => sc.spareTested k i pass
  | .finished => sc

/-- SCAN TEST END (R53 to R55): a path passes when its resistance is below 10 ohms. -/
def execScanTestEnd (n : Nest) (milliohm : Nat) (s : State) : Result :=
  let f := s.fix n
  .next (match f.scan with
    | some sc =>
      if sc.due ≤ s.ms then s.setFix n { f with scan := some (sc.testEnd f.lines (milliohm < Config.scanPassBelow)) } else s
    | none => s)

/-- R57 step 1: the working view is applied. -/
def Fxc.applyScan (f : Fxc) (sc : Scan) : Fxc :=
  { f with
    lines := Vector.ofFn fun k =>
      if sc.tested.contains k then { f.lines[k] with path := sc.paths[k], mark := sc.marks[k] } else f.lines[k]
    spares := sc.spares }

/-- R58: the report of a lost line. A STIM line's channel is unrouted by the map itself (R83). -/
def State.reportLoss (s : State) (n : Nest) (r : Role) : State :=
  match r with
  | .sense k => s.inputLost n k
  | .unused | .stim _ | .bus | .supply => s

/-- R57 step 2, for one line. -/
def State.lineLost (s : State) (n : Nest) (x : Fin 32 × LossCause) : State :=
  (s.postStation n (.lineLost x.1 x.2)).reportLoss n (s.fix n).lines[x.1].role

/-- R56: the result, from the map after the working view is applied. -/
def Fxc.scanOutcome (f : Fxc) (tested : List (Fin 32)) : ScanResult :=
  if (List.finRange 32).any fun k => f.lines[k].critical && f.lines[k].path == .lost then .lostCritical
  else if tested.any fun k => f.lines[k].mark then .failed
  else .passed

/-- Table 2-4: the detail of FIXTURE_STATE. Only the first three results end a completed scan. -/
def ScanResult.detail : ScanResult → FixtureDetail
  | .passed => .scanPassed
  | .failed => .scanFailed
  | .lostCritical => .scanLostCritical
  | .none | .abandoned => .scanAbandoned

/-- R57 steps 3 to 5: the result is recorded, the fixture enters CONTACTED or CLAMPED, contacts are counted (R59). -/
def State.restAfterScan (s : State) (n : Nest) (result : ScanResult) (firstFail : Option (Fin 32)) : State :=
  let f := s.fix n
  let t := s.setFix n { f with
    scanResult := result, firstFail := firstFail, scan := none, state := if result = .passed then .contacted else .clamped }
  (if result = .passed then t.wearLines n (f.lines.map fun l => l.contacted f.wearLimit) else t).postFixture n result.detail

/-- R57. -/
def State.completeScan (s : State) (n : Nest) (sc : Scan) : State :=
  let f := (s.fix n).applyScan sc
  (sc.lost.foldl (fun s x => s.lineLost n x) (s.setFix n f)).restAfterScan n (f.scanOutcome sc.tested) sc.firstFail

/-- SCAN COMPLETION (R57): at the end of the last test. -/
def execScanCompletion (n : Nest) (s : State) : Result :=
  .next (match (s.fix n).scan with
    | some sc => if sc.target = .finished ∧ sc.due ≤ s.ms then s.completeScan n sc else s
    | none => s)

/-! ## Sense events (R29, Table 2-3) -/

/-- LID OPENED (R40). -/
def execLidOpened (n : Nest) (s : State) : Result :=
  let t := s.setFix n { s.fix n with lid := false }
  .next (if (s.fix n).state.interruptible then t.enterFault n .lidOpened else t)

/-- LID CLOSED (R29). -/
def execLidClosed (n : Nest) (s : State) : Result := .next (s.setFix n { s.fix n with lid := true })

/-- HOME SENSED (R39). -/
def execHomeSensed (n : Nest) (s : State) : Result :=
  let t := s.setFix n { s.fix n with home := true }
  .next (if (s.fix n).state = .releasing then
      (t.setFix n { t.fix n with state := .opened, releaseTimer := .stopped }).postFixture n .homeSensed
    else t)

/-- HOME LOST (R29). -/
def execHomeLost (n : Nest) (s : State) : Result := .next (s.setFix n { s.fix n with home := false })

/-- CLOSED SENSED (R32). -/
def execClosedSensed (n : Nest) (s : State) : Result :=
  let t := s.setFix n { s.fix n with closed := true }
  .next (if (s.fix n).state = .closing then
      (t.setFix n { t.fix n with state := .clamped, clampTimer := .stopped }).postFixture n .closedSensed
    else t)

/-- CLOSED LOST (R40). -/
def execClosedLost (n : Nest) (s : State) : Result :=
  let t := s.setFix n { s.fix n with closed := false }
  .next (if (s.fix n).state.clampHeld then t.enterFault n .clampLost else t)

/-- PRESSURE SENSED (R29). -/
def execPressureSensed (n : Nest) (s : State) : Result := .next (s.setFix n { s.fix n with pressure := true })

/-- PRESSURE LOST (R37, R35). -/
def execPressureLost (n : Nest) (s : State) : Result :=
  let t := s.setFix n { s.fix n with pressure := false }
  .next (match (s.fix n).state with
    | .contacted => ((t.setFix n { t.fix n with state := .clamped }).postFixture n .pressureLost).contactLoss n
    | .scanning => (t.setFix n { (t.fix n).abandonScan with state := .clamped }).postFixture n .scanAbandoned
    | .opened | .closing | .clamped | .releasing | .fault => t)

/-! ## Timers and STOP -/

/-- CLAMP TIMER EXPIRY (R32). -/
def execClampTimerExpiry (n : Nest) (s : State) : Result :=
  .next (if (s.fix n).state = .closing ∧ (s.fix n).clampTimer.due s.ms then s.enterFault n .clampTimeout else s)

/-- RELEASE TIMER EXPIRY (R39). -/
def execReleaseTimerExpiry (n : Nest) (s : State) : Result :=
  .next (if (s.fix n).state = .releasing ∧ (s.fix n).releaseTimer.due s.ms then s.enterFault n .releaseTimeout else s)

/-- R40: the assertion of STOP at one nest's FXC. -/
def State.stopNest (s : State) (n : Nest) : State :=
  if (s.fix n).state.interruptible then s.enterFault n .stop else s

/-- The nest that takes an assertion of STOP first: a free value (log 10). -/
def State.stopFirst (s : State) : Nest := if Config.stopNestBFirst s.openChoices then .b else .a

/-- STOP ASSERTED (R40): an event at both nests' FXCs, and each takes it by its own fixture state. -/
def execStopAsserted (s : State) : Result :=
  .next (({ s with stop := true, openChoices := s.openChoices + 1 }.stopNest s.stopFirst).stopNest s.stopFirst.other)

/-- STOP DEASSERTED (R40): no effect in any fixture state; the level is kept (R29). -/
def execStopDeasserted (s : State) : Result := .next { s with stop := false }

end Sys2Proof.Machine
end

