-- ==== Sys2Proof/Machine/Port.lean ====
section
/-! DEFINITION. The Port Interface: the SPI header word, the accesses of a port window, answers, and IDENTIFY (Chapter 9). -/

namespace Sys2Proof.Machine

/-! ## What a read returns (R167, Table 9-1) -/

/-- One of the four NOTICE words of the head notice; zero where the queue is empty (R175). -/
def PortWindow.noticeWord (w : PortWindow) (k : Nat) : Word :=
  match w.notices with
  | [] => 0#16
  | x :: _ => x.words.getD k 0#16

/-- The word the next DATA read returns (R170, R171). -/
def PortWindow.dataWord (w : PortWindow) : Word :=
  match w.mode with
  | .dataOut (x :: _) => x
  | .dataOut [] | .ready | .busy _ | .dataIn _ _ _ => 0#16

/-- The word a read of a slot returns; PARAM reads back with its reserved bits at 0 (R179, log 7). Reads of slots other than 0 (STATUS) and 18 (DATA) change nothing and have no row (log 6). -/
def PortWindow.readSlot (w : PortWindow) (k : Nat) : Word :=
  if k ≤ 1 then w.status
  else if k ≤ 9 then w.params.toList.getD (k - 2) 0#16 &&& w.named.toList.getD (k - 2) 0#16
  else if k ≤ 17 then w.resp.toList.getD (k - 10) 0#16
  else if k = 18 then w.dataWord
  else if k ≤ 22 then w.noticeWord (k - 19)
  else if k = 24 then wordOfNat (flagNat w.attnEnable)
  else 0#16

/-! ## The header word and the read accesses -/

/-- SPI HEADER WORD (R167, Table 10-1): a transaction begins at the slot the header names. A slot of 25 to 31 is past slot 24,
where accesses have no effect. -/
def execSpiHeaderWord (p : Port) (w : Word) (s : State) : Result :=
  .next (s.setPort p { s.port p with spi := some ⟨flagBit w 15, bitField w 0 5⟩ })

/-- STATUS READ (R172): a read of slot 0 in a read transaction that stands there. -/
def execStatusRead (p : Port) (s : State) : Result :=
  let w := s.port p
  .next (if w.spi = some ⟨false, 0⟩ then s.setPort p { (w.step false 0).acknowledge with out := w.status } else s)

/-- A read transaction that has reached DATA, or will reach it: the slots it passes on the way are read without effect (log 6). -/
def PortWindow.readsData (w : PortWindow) : Bool :=
  match w.spi with
  | some ⟨false, k⟩ => decide (1 ≤ k ∧ k ≤ 18)
  | some ⟨true, _⟩ | none => false

/-- R170: the transfer after a read of DATA. -/
def PortWindow.takeWord (w : PortWindow) : PortWindow :=
  match w.mode with
  | .dataOut (_ :: x :: rest) => { w with mode := .dataOut (x :: rest) }
  | .dataOut [_] | .dataOut [] => w.finishOut
  | .ready | .busy _ | .dataIn _ _ _ => w

/-- DATA READ (R170, R171). -/
def execDataRead (p : Port) (s : State) : Result :=
  let w := s.port p
  .next (if w.readsData then s.setPort p { w.takeWord with spi := some ⟨false, 18⟩, out := w.dataWord } else s)

/-! ## The write accesses -/

/-- R171: the owning block checks and applies the words of an incoming transfer. -/
def State.applyTransfer (s : State) (t : InTarget) (words : List Word) : State × Answer :=
  match t with
  | .fixtureData n => s.applyFixtureData n words
  | .replyEntry n k => s.applyReplyWords n k words

/-- R171: a word of an incoming transfer is held aside; the last one hands the block to its owner, and the port is BUSY. -/
def State.storeWord (s : State) (p : Port) (w : Word) : State :=
  match (s.port p).mode with
  | .dataIn t need got =>
    if got.length + 1 < need then s.setPort p { s.port p with mode := .dataIn t need (got ++ [w]) }
    else
      let r := s.applyTransfer t (got ++ [w])
      r.1.setPort p { r.1.port p with mode := .busy r.2 }
  | .ready | .busy _ | .dataOut _ => s

/-- DATA WRITE (R171): a write of slot 18. -/
def execDataWrite (p : Port) (w : Word) (s : State) : Result := .next (s.writeAccess p 18 fun s => s.storeWord p w)

/-- NOTICE POP (R175): a write of slot 23, whatever the value. -/
def execNoticePop (p : Port) (_w : Word) (s : State) : Result :=
  .next (s.writeAccess p 23 fun s => s.setPort p (s.port p).pop)

/-- R173: the attention-enable flag takes its written value. -/
def PortWindow.enableAttention (w : PortWindow) (on : Bool) : PortWindow := { w with attnEnable := on }

/-- ATTENTION ENABLE (R173): a write of PORT CONTROL (slot 24) without the port-reset flag. -/
def execAttentionEnable (p : Port) (on : Bool) (s : State) : Result :=
  .next (s.writeAccess p 24 fun s => s.setPort p ((s.port p).enableAttention on))

/-- PORT RESET (R176): a write of PORT CONTROL with the port-reset flag, after the attention-enable flag has taken its value. -/
def execPortReset (p : Port) (on : Bool) (s : State) : Result :=
  .next (s.writeAccess p 24 fun s => s.setPort p ((s.port p).enableAttention on).portReset)

/-- R167, Table 9-1: what a write to the slots of WINDOW WRITE does: PARAM 0-7 store the word, of which no bit is reserved until
a command lays it out (R179, log 7); the others do nothing. -/
def PortWindow.writeParam (w : PortWindow) (k : Nat) (x : Word) : PortWindow :=
  if 2 ≤ k then
    match index? 8 (k - 2) with
    | some i => { w with params := w.params.set i x, named := w.named.set i 0xFFFF#16 }
    | none => w
  else w

/-- The slots whose writes are rows of their own: COMMAND, DATA, NOTICE POP and PORT CONTROL. -/
def slotHasOwnRow (k : Nat) : Bool := k = 0 || k = 18 || k = 23 || k = 24

/-- WINDOW WRITE (R167): the next word of a write transaction that stands at any other slot. -/
def execWindowWrite (p : Port) (x : Word) (s : State) : Result :=
  let w := s.port p
  .next (match w.spi with
    | some ⟨true, k⟩ => if slotHasOwnRow k then s else s.setPort p ((w.step true k).writeParam k x)
    | some ⟨false, _⟩ | none => s)

/-! ## Commands the PIF refuses, and answers (R168, R174) -/

/-- UNDEFINED COMMAND (R168): in READY it completes with UNKNOWN; in any other port state it collides. A word that spells a
permitted command is that command's row. -/
def execUndefinedCommand (p : Port) (w : Word) (s : State) : Result :=
  .next (if decodeCommand p w = .undefinedCommand p w then
    s.writeAccess p 0 fun s => s.setPort p
      (match (s.port p).mode with
        | .ready => (s.port p).complete .unknown []
        | .busy _ | .dataOut _ | .dataIn _ _ _ => (s.port p).collision)
  else s)

/-- R168, R176: the first answer a port reset abandoned arrives and is discarded. -/
def PortWindow.discardAnswer (w : PortWindow) : PortWindow := { w with late := w.late.tail }

/-- R168: the awaited answer is taken; outside BUSY none is awaited. -/
def PortWindow.awaitedAnswer (w : PortWindow) : PortWindow :=
  match w.mode with
  | .busy x => w.takeAnswer x
  | .ready | .dataOut _ | .dataIn _ _ _ => w

/-- COMMAND ANSWER (R168). -/
def execCommandAnswer (p : Port) (which : AnswerKind) (s : State) : Result :=
  .next (s.setPort p (match which with
    | .awaited => (s.port p).awaitedAnswer
    | .abandoned => (s.port p).discardAnswer))

/-! ## IDENTIFY (R178) -/

def State.identityWords (s : State) (p : Port) : List Word :=
  [Config.vendorCode, Config.partCode, Config.revision, wordOfNat (portNum p), wordOfNat s.resetCause.num,
   highWord s.clock, lowWord s.clock]

/-- IDENTIFY (R178). -/
def execIdentify (p : Port) (s : State) : Result :=
  .next (s.takeCommand p .anyPort fun s => accept s (s.identityWords p))

end Sys2Proof.Machine
end

