-- ==== Sys2Proof/Machine/Reset.lean ====
section
/-! DEFINITION. Power-on, the RESET line and the Timebase tick (R177 and the reset rules of each chapter). -/

namespace Sys2Proof.Machine

/-! ## Each block after the RESET line -/

/-- R47, R64: the fixture comes to rest; timeouts, probe map, pool and wear limit are kept, and so are the pins' levels. The clock
is 0 at a reset. -/
def Fxc.lineReset (f : Fxc) : Fxc :=
  Fxc.startRelease { f with
    cause := .none
    permit := false
    clampTimer := .stopped
    releaseTimer := .stopped
    scanResult := .none
    firstFail := none
    scan := none } 0

/-- R66, R68, R100: every channel is released without a notice, and a generator takes its output as its rate at once. -/
def Channel.lineReset (ch : Channel) (c : Fin 16) : Channel :=
  { ch.claimDefaults with owner := none, waiter := none }.restartRate c ch.safe 0

/-- R76, R100. -/
def Stu.lineReset (u : Stu) : Stu := ⟨Vector.ofFn fun c => u.chans[c].lineReset c, ⟨Pace.off, Pace.off⟩⟩

/-- R73: the filtered level is the input level and no change is pending; the filter time is kept. -/
def TriggerLine.lineReset (x : TriggerLine) : TriggerLine := { x with filtered := x.input, change := none }

/-- R149: the queue is emptied and the engine is IDLE; offsets and gate timeouts are kept. -/
def Mse.lineReset (m : Mse) : Mse := { m with queue := [], engine := .idle }

/-- RESET LINE (R177): every block is reset by its own rule. R1 and R14 give the runs, R129 the BEUs, R166 the PRU. -/
def execResetLine (s : State) : Result :=
  .next { s with
    ms := 0
    resetCause := .resetLine
    ports := ⟨s.ports.stationA.lineReset, s.ports.stationB.lineReset, s.ports.operator.lineReset⟩
    rnc := ⟨.idle 0#16, .idle 0#16⟩
    fxc := ⟨s.fxc.a.lineReset, s.fxc.b.lineReset⟩
    stu := s.stu.lineReset
    tri := s.tri.map TriggerLine.lineReset
    beu := ⟨Beu.cleared, Beu.cleared⟩
    mse := s.mse.lineReset
    pru := Pru.cleared }

/-! ## Power-on -/

/-- R47, R64: the fixture at power-on, with the levels its sense pins have. -/
def Fxc.atPowerOn (f : Fxc) : Fxc :=
  Fxc.startRelease { Fxc.powerOn with lid := f.lid, home := f.home, closed := f.closed, pressure := f.pressure } 0

/-- R73: a trigger line at power-on, with the level its pin has. -/
def TriggerLine.atPowerOn (x : TriggerLine) : TriggerLine := { TriggerLine.powerOn with input := x.input, filtered := x.input }

/-- POWER ON (R177): every block takes its power-on values; the levels at the input pins are the rack's (log 20). -/
def execPowerOn (s : State) : Result :=
  .next { State.reset with
    pending := s.pending
    openChoices := s.openChoices
    stop := s.stop
    fxc := ⟨s.fxc.a.atPowerOn, s.fxc.b.atPowerOn⟩
    tri := s.tri.map TriggerLine.atPowerOn
    mse := { Mse.powerOn with inputs := s.mse.inputs } }

/-- TIMEBASE TICK (R177). -/
def execTimebaseTick (s : State) : Result := .next { s with ms := s.ms + 1 }

end Sys2Proof.Machine
end

