-- ==== Sys2Proof/Machine/Trigger.lean ====
section
/-! DEFINITION. The Trigger Inputs: filters, edges and their delivery, and the two commands (section 4.5). -/

namespace Sys2Proof.Machine

def State.setLine (s : State) (l : Fin 4) (x : TriggerLine) : State := s.setTri (s.tri.set l x)

/-- R73: the direction of the edge that brings the filtered level to a new level. -/
def Edge.towards : Level → Edge
  | .low => .falling
  | .high => .rising

/-- R135: an edge sets the gate-seen marks in the queue; then an idle engine makes its choice (R138). -/
def State.edgeToRequests (s : State) (l : Fin 4) (e : Edge) : State :=
  (s.setQueue (s.mse.queue.map fun r => r.takeEdge l (r.gateEdge.includes e) (s.active r.id.nest))).chooseRequest

/-- R75: an edge is delivered to the STU and the MSE. -/
def State.deliverEdge (s : State) (l : Fin 4) (e : Edge) : State := (s.edgeToChannels l e).edgeToRequests l e

/-- The filtered level takes a level, the pending change is gone, and an edge is delivered (R73). -/
def State.filterTo (s : State) (l : Fin 4) (level : Level) : State :=
  (s.setLine l { s.tri[l] with filtered := level, change := none }).deliverEdge l (.towards level)

/-- TRIGGER INPUT CHANGE (R73). -/
def execTriggerInputChange (l : Fin 4) (level : Level) (s : State) : Result :=
  let x := { s.tri[l] with input := level }
  let t := s.setLine l x
  .next (if level = x.filtered then t.setLine l { x with change := none }
    else if x.filter = 0 then t.filterTo l level
    else t.setLine l { x with change := some (s.ms + x.filter) })

/-- FILTER EXPIRY (R73). -/
def execFilterExpiry (l : Fin 4) (s : State) : Result :=
  .next (match s.tri[l].change with
    | some e => if e ≤ s.ms then s.filterTo l s.tri[l].input else s
    | none => s)

/-- SET TRIGGER FILTER (R74). -/
def execSetTriggerFilter (p : Port) (s : State) : Result :=
  .next (s.stationCommand p fun _ s =>
    let v := (s.param p 1).toNat
    match index? 4 (s.param p 0).toNat with
    | none => refuse s .range
    | some l => if 50 < v then refuse s .range else accept (s.setLine l { s.tri[l] with filter := v }) [])

/-- The response of READ TRIGGER LINES: for each line in turn its filtered level and its filter time (R74, log 9). -/
def TriggerLine.words (x : TriggerLine) : List Word := [wordOfNat (Level.num x.filtered), wordOfNat x.filter]

/-- READ TRIGGER LINES (R74). -/
def execReadTriggerLines (p : Port) (s : State) : Result :=
  .next (s.takeCommand p .anyPort fun s => accept s (s.tri.toList.flatMap TriggerLine.words))

end Sys2Proof.Machine
end

