-- ==== Sys2Proof/Machine/Dispatch.lean ====
section
/-! DEFINITION. One arm for each row of spec/opcode_table.json: the event's effect on everything but the queue. -/

namespace Sys2Proof.Machine

def exec (i : Instr) (s : State) : Host.Outcome State Fault Refusal :=
  match i with
  | .identify p => Sys2Proof.Machine.execIdentify p s
  | .openRun p => Sys2Proof.Machine.execOpenRun p s
  | .holdRun p => Sys2Proof.Machine.execHoldRun p s
  | .resumeRun p => Sys2Proof.Machine.execResumeRun p s
  | .endRun p => Sys2Proof.Machine.execEndRun p s
  | .abortRun p => Sys2Proof.Machine.execAbortRun p s
  | .releaseRun p => Sys2Proof.Machine.execReleaseRun p s
  | .postVerdict p => Sys2Proof.Machine.execPostVerdict p s
  | .cancelEntry p => Sys2Proof.Machine.execCancelEntry p s
  | .readRecord p => Sys2Proof.Machine.execReadRecord p s
  | .readNestStatus p => Sys2Proof.Machine.execReadNestStatus p s
  | .operatorAbort p => Sys2Proof.Machine.execOperatorAbort p s
  | .clamp p => Sys2Proof.Machine.execClamp p s
  | .scan p => Sys2Proof.Machine.execScan p s
  | .unclamp p => Sys2Proof.Machine.execUnclamp p s
  | .setFixtureTiming p => Sys2Proof.Machine.execSetFixtureTiming p s
  | .readFixtureStatus p => Sys2Proof.Machine.execReadFixtureStatus p s
  | .writeProbeLine p => Sys2Proof.Machine.execWriteProbeLine p s
  | .readProbeLine p => Sys2Proof.Machine.execReadProbeLine p s
  | .setWearLimit p => Sys2Proof.Machine.execSetWearLimit p s
  | .readFixtureData p => Sys2Proof.Machine.execReadFixtureData p s
  | .restoreFixtureData p => Sys2Proof.Machine.execRestoreFixtureData p s
  | .claimChannels p => Sys2Proof.Machine.execClaimChannels p s
  | .releaseChannels p => Sys2Proof.Machine.execReleaseChannels p s
  | .setSafeValue p => Sys2Proof.Machine.execSetSafeValue p s
  | .readClaimTable p => Sys2Proof.Machine.execReadClaimTable p s
  | .setPace p => Sys2Proof.Machine.execSetPace p s
  | .readPace p => Sys2Proof.Machine.execReadPace p s
  | .stageA p => Sys2Proof.Machine.execStageA p s
  | .stageB p => Sys2Proof.Machine.execStageB p s
  | .stageMany p => Sys2Proof.Machine.execStageMany p s
  | .commit p => Sys2Proof.Machine.execCommit p s
  | .configureChannel p => Sys2Proof.Machine.execConfigureChannel p s
  | .readChannel p => Sys2Proof.Machine.execReadChannel p s
  | .setTriggerFilter p => Sys2Proof.Machine.execSetTriggerFilter p s
  | .readTriggerLines p => Sys2Proof.Machine.execReadTriggerLines p s
  | .setLink p => Sys2Proof.Machine.execSetLink p s
  | .setRestartIdentifier p => Sys2Proof.Machine.execSetRestartIdentifier p s
  | .writeBroadcastEntry p => Sys2Proof.Machine.execWriteBroadcastEntry p s
  | .readBroadcastEntry p => Sys2Proof.Machine.execReadBroadcastEntry p s
  | .writeReplyEntry p => Sys2Proof.Machine.execWriteReplyEntry p s
  | .armReply p => Sys2Proof.Machine.execArmReply p s
  | .readReplyEntry p => Sys2Proof.Machine.execReadReplyEntry p s
  | .armWatch p => Sys2Proof.Machine.execArmWatch p s
  | .readLinkStatus p => Sys2Proof.Machine.execReadLinkStatus p s
  | .requestMeasurement p => Sys2Proof.Machine.execRequestMeasurement p s
  | .calibrateOffset p => Sys2Proof.Machine.execCalibrateOffset p s
  | .setGateTimeout p => Sys2Proof.Machine.execSetGateTimeout p s
  | .readMeasurementStatus p => Sys2Proof.Machine.execReadMeasurementStatus p s
  | .postPrompt p => Sys2Proof.Machine.execPostPrompt p s
  | .takePrompt p => Sys2Proof.Machine.execTakePrompt p s
  | .answerPrompt p => Sys2Proof.Machine.execAnswerPrompt p s
  | .declinePrompt p => Sys2Proof.Machine.execDeclinePrompt p s
  | .readPromptQueue p => Sys2Proof.Machine.execReadPromptQueue p s
  | .undefinedCommand p w => Sys2Proof.Machine.execUndefinedCommand p w s
  | .commandAnswer p which => Sys2Proof.Machine.execCommandAnswer p which s
  | .statusRead p => Sys2Proof.Machine.execStatusRead p s
  | .dataRead p => Sys2Proof.Machine.execDataRead p s
  | .dataWrite p w => Sys2Proof.Machine.execDataWrite p w s
  | .noticePop p w => Sys2Proof.Machine.execNoticePop p w s
  | .attentionEnable p on => Sys2Proof.Machine.execAttentionEnable p on s
  | .portReset p on => Sys2Proof.Machine.execPortReset p on s
  | .windowWrite p w => Sys2Proof.Machine.execWindowWrite p w s
  | .powerOn => Sys2Proof.Machine.execPowerOn s
  | .resetLine => Sys2Proof.Machine.execResetLine s
  | .stopAsserted => Sys2Proof.Machine.execStopAsserted s
  | .stopDeasserted => Sys2Proof.Machine.execStopDeasserted s
  | .lidOpened n => Sys2Proof.Machine.execLidOpened n s
  | .lidClosed n => Sys2Proof.Machine.execLidClosed n s
  | .homeSensed n => Sys2Proof.Machine.execHomeSensed n s
  | .homeLost n => Sys2Proof.Machine.execHomeLost n s
  | .closedSensed n => Sys2Proof.Machine.execClosedSensed n s
  | .closedLost n => Sys2Proof.Machine.execClosedLost n s
  | .pressureSensed n => Sys2Proof.Machine.execPressureSensed n s
  | .pressureLost n => Sys2Proof.Machine.execPressureLost n s
  | .clampTimerExpiry n => Sys2Proof.Machine.execClampTimerExpiry n s
  | .releaseTimerExpiry n => Sys2Proof.Machine.execReleaseTimerExpiry n s
  | .scanTestEnd n milliohm => Sys2Proof.Machine.execScanTestEnd n milliohm s
  | .scanCompletion n => Sys2Proof.Machine.execScanCompletion n s
  | .triggerInputChange l level => Sys2Proof.Machine.execTriggerInputChange l level s
  | .filterExpiry l => Sys2Proof.Machine.execFilterExpiry l s
  | .paceExpiry n => Sys2Proof.Machine.execPaceExpiry n s
  | .pulsePeriodEnd c => Sys2Proof.Machine.execPulsePeriodEnd c s
  | .frameArrival n r f => Sys2Proof.Machine.execFrameArrival n r f s
  | .transmitStart n => Sys2Proof.Machine.execTransmitStart n s
  | .transmissionEnd n o => Sys2Proof.Machine.execTransmissionEnd n o s
  | .broadcastTimerExpiry n k => Sys2Proof.Machine.execBroadcastTimerExpiry n k s
  | .replyDue n k => Sys2Proof.Machine.execReplyDue n k s
  | .windowExpiry n w => Sys2Proof.Machine.execWindowExpiry n w s
  | .gateTimerExpiry n seq => Sys2Proof.Machine.execGateTimerExpiry n seq s
  | .settleEnd => Sys2Proof.Machine.execSettleEnd s
  | .measurementCompletion => Sys2Proof.Machine.execMeasurementCompletion s
  | .calibrationCompletion => Sys2Proof.Machine.execCalibrationCompletion s
  | .answerTimerExpiry => Sys2Proof.Machine.execAnswerTimerExpiry s
  | .timebaseTick => Sys2Proof.Machine.execTimebaseTick s
  | .measurementSample reading => Sys2Proof.Machine.execMeasurementSample reading s
  | .senseInputCrossing n k mv us => Sys2Proof.Machine.execSenseInputCrossing n k mv us s
  | .spiHeaderWord p w => Sys2Proof.Machine.execSpiHeaderWord p w s

end Sys2Proof.Machine
end

