-- ==== Sys2Proof/Safety.lean ====
section
/-! DEFINITION. The words the statements of Certificates/Slice0/Obligations.lean are written in: when a command is taken and what that
leaves at its port, and what stays true of the part at every step (each invariant is inductive over arbitrary states). -/

namespace Sys2Proof.Machine

/-! ## Commands at a port (R167, R168, R174, Table 9-3) -/

/-- A COMMAND word written now at port p is taken: a write transaction stands at slot 0, and the port is READY. -/
abbrev State.Accepts (s : State) (p : Port) : Prop := (s.port p).spi = some ⟨true, 0⟩ ∧ (s.port p).mode = .ready

/-- R168: the port once a command with answer x is taken: the transaction has moved on to slot 1, the pending completion is
cleared, and the port is BUSY. R179: the PARAM words then have the command's layout, whole words but for the commands of paramBits
(log 7). -/
def PortWindow.taken (w : PortWindow) (x : Answer) (named : Vector Word 8 := wholeParams) : PortWindow :=
  { w with spi := some ⟨true, 1⟩, pendingCompletion := false, named := named, mode := .busy x }

/-- A command taken at port p with answer x that changes nothing else. -/
def State.answered (s : State) (p : Port) (x : Answer) (named : Vector Word 8 := wholeParams) : State :=
  s.setPort p ((s.port p).taken x named)

/-- A command of nest n's station port taken with answer x, and one notice posted to that port. -/
def State.answeredNotice (s : State) (n : Nest) (x : Answer) (b : NoticeBody) : State :=
  s.setPort n.port (((s.port n.port).taken x).post ⟨n, b⟩)

/-- The answer of a command that completes with OK. -/
def okWith (resp : List Word) : Answer := .complete .ok resp

/-- Table 9-3: the port a COMMAND row is written at, and the ports its command is permitted at; none for the other rows. -/
def commandAt? : Instr → Option (Port × Permitted)
  | .identify p | .readNestStatus p | .readClaimTable p | .readChannel p | .readTriggerLines p | .readMeasurementStatus p
  | .readPromptQueue p => some (p, .anyPort)
  | .operatorAbort p | .takePrompt p | .answerPrompt p | .declinePrompt p => some (p, .operator)
  | .openRun p | .holdRun p | .resumeRun p | .endRun p | .abortRun p | .releaseRun p | .postVerdict p | .cancelEntry p
  | .readRecord p | .clamp p | .scan p | .unclamp p | .setFixtureTiming p | .readFixtureStatus p | .writeProbeLine p
  | .readProbeLine p | .setWearLimit p | .readFixtureData p | .restoreFixtureData p | .claimChannels p | .releaseChannels p
  | .setSafeValue p | .setPace p | .readPace p | .stageA p | .stageB p | .stageMany p | .commit p | .configureChannel p
  | .setTriggerFilter p | .setLink p | .setRestartIdentifier p | .writeBroadcastEntry p | .readBroadcastEntry p
  | .writeReplyEntry p | .armReply p | .readReplyEntry p | .armWatch p | .readLinkStatus p | .requestMeasurement p
  | .calibrateOffset p | .setGateTimeout p | .postPrompt p => some (p, .station)
  | _ => none

/-- Table 10-3: every command code, with the row it spells at a port. -/
def commandCodes : List (Nat × (Port → Instr)) :=
  [(0x01, .identify)] ++
  [(0x10, .openRun), (0x11, .holdRun), (0x12, .resumeRun), (0x13, .endRun), (0x14, .abortRun), (0x15, .releaseRun),
   (0x16, .postVerdict), (0x17, .cancelEntry), (0x18, .readRecord), (0x19, .readNestStatus), (0x1A, .operatorAbort)] ++
  [(0x20, .clamp), (0x21, .scan), (0x22, .unclamp), (0x23, .setFixtureTiming), (0x24, .readFixtureStatus),
   (0x25, .writeProbeLine), (0x26, .readProbeLine), (0x27, .setWearLimit), (0x28, .readFixtureData), (0x29, .restoreFixtureData)] ++
  [(0x30, .claimChannels), (0x31, .releaseChannels), (0x32, .setSafeValue), (0x33, .readClaimTable), (0x34, .setPace),
   (0x35, .readPace), (0x36, .stageA), (0x37, .stageB), (0x38, .stageMany), (0x39, .commit), (0x3A, .configureChannel),
   (0x3B, .readChannel)] ++
  [(0x40, .setTriggerFilter), (0x41, .readTriggerLines)] ++
  [(0x50, .setLink), (0x51, .setRestartIdentifier), (0x52, .writeBroadcastEntry), (0x53, .readBroadcastEntry),
   (0x54, .writeReplyEntry), (0x55, .armReply), (0x56, .readReplyEntry), (0x57, .armWatch), (0x58, .readLinkStatus)] ++
  [(0x60, .requestMeasurement), (0x61, .calibrateOffset), (0x62, .setGateTimeout), (0x63, .readMeasurementStatus)] ++
  [(0x70, .postPrompt), (0x71, .takePrompt), (0x72, .answerPrompt), (0x73, .declinePrompt), (0x74, .readPromptQueue)]

/-! ## What an event leaves as it was, and what a run-state report does (R13, Table 1-5) -/

/-- Nothing of the other nest's run, fixture and bus, of the trigger lines, the clock, STOP, the reset cause, the waiting events and the
model's counter of free choices has changed. -/
def SameBeside (s t : State) (n : Nest) : Prop :=
  t.run n.other = s.run n.other ∧ t.fix n.other = s.fix n.other ∧ t.bus n.other = s.bus n.other ∧ t.tri = s.tri ∧ t.ms = s.ms ∧
  t.stop = s.stop ∧ t.resetCause = s.resetCause ∧ t.pending = s.pending ∧ t.openChoices = s.openChoices

/-- A channel record but for its generator, which follows the output (R84). -/
def Channel.sameRecord (x y : Channel) : Prop := x = { y with rate := x.rate, periodEnd := x.periodEnd }

/-- The engine works on no request of the nest. -/
def State.engineOff (s : State) (n : Nest) : Prop := ∀ id off ph, s.mse.engine = .working id off ph → id.nest ≠ n

/-- R84: after an event a generator at rate 0 has taken the output and begun its first period, at the millisecond of the clock (log 17);
the others go on as they were. -/
def GeneratorsAdopt (s t : State) (c : Fin 16) : Prop :=
  if chanKind c = .pulse ∧ (s.chan c).rate = 0 then
    (t.chan c).rate = t.output c ∧ (0 < t.output c → (t.chan c).periodEnd = (Moment.mk s.ms 1).addPeriod (t.output c)) ∧
    (t.output c = 0 → (t.chan c).periodEnd = (s.chan c).periodEnd)
  else (t.chan c).rate = (s.chan c).rate ∧ (t.chan c).periodEnd = (s.chan c).periodEnd

/-- R138, R139: e is what the engine does at the end of an event that leaves everything else as in s: a WORKING engine goes on, an
IDLE one starts the first request of the queue that is ready and whose nest's run is ACTIVE, or stays IDLE. -/
def State.Chooses (s : State) (e : Engine) : Prop :=
  (∀ id off ph, s.mse.engine = .working id off ph → e = s.mse.engine) ∧
  (s.mse.engine = .idle →
    ((∀ r ∈ s.mse.queue, r.ready = true → s.active r.id.nest = false) → e = .idle) ∧
    ∀ before r after, s.mse.queue = before ++ r :: after → (∀ x ∈ before, x.ready = true → s.active x.id.nest = false) →
      r.ready = true → s.active r.id.nest = true →
      (0 < r.settle → e = .working r.id (s.mse.offset.get r.id.nest) (.settling (s.ms + r.settle))) ∧
      (r.settle = 0 → e = .working r.id (s.mse.offset.get r.id.nest) (.measuring s.ms (s.ms + r.amount)
        (if r.kind.sampled then .samples 0 0 else .window (decide (2500 < s.inputOf r)) 0 0 (s.ms * 1000)))))

/-- R138, R144 to R147: an event from s to t takes the work of the entries of stops away from the engine. An engine that works on one of
them, and an idle one, makes its choice at the end of the event; any other goes on. -/
def EngineChose (s t : State) (stops : WorkId → Prop) : Prop :=
  let chooses := { t with mse := { t.mse with engine := .idle } }.Chooses t.mse.engine
  (s.mse.engine = .idle → chooses) ∧
  ∀ id off ph, s.mse.engine = .working id off ph → (stops id → chooses) ∧ (¬ stops id → t.mse.engine = s.mse.engine)

/-- What the STU, MSE, PRU and BEU do when a nest's run becomes HELD (R76, R84, R85, R126, R136, R138, R144, R163). -/
def HeldIn (s t : State) (n : Nest) : Prop :=
  (∀ c : Fin 16, (t.chan c).sameRecord (s.chan c) ∧ ((s.chan c).owner = some n → t.output c = (s.chan c).safe)) ∧
  (∀ c, GeneratorsAdopt s t c) ∧
  t.stu.pace = s.stu.pace.set n { s.stu.pace.get n with timer := (s.stu.pace.get n).timer.pause s.ms } ∧
  t.mse = { s.mse with
    engine := t.mse.engine
    queue := s.mse.queue.map fun r => if r.id.nest = n then { r with gate := r.gate.pause s.ms } else r } ∧
  t.engineOff n ∧ EngineChose s t (·.nest = n) ∧
  t.pru = { s.pru with
    queue := s.pru.queue.map fun x => if x.id.nest = n then { x with pres := .waiting, timer := .stopped } else x } ∧
  t.bus n = { s.bus n with
    watches := (s.bus n).watches.map fun w => w.map fun w => { w with window := w.window.pause s.ms } }

/-- R136, R144: the queue once nest n's run is ACTIVE again: requests whose gate timer has no time left have expired, and the PAUSED gate
timers of the others of the nest run again. -/
def resumedQueue (q : List Request) (n : Nest) (now : Nat) : List Request :=
  (q.filter fun r => decide (¬ (r.id.nest = n ∧ r.gate = .paused 0))).map fun r =>
    if r.id.nest = n then { r with gate := r.gate.resume now } else r

/-- R126: the watches once the run is ACTIVE again: those whose window has no time left have expired, the others' windows run again. -/
def resumedWatches (v : Vector (Option Watch) 8) (now : Nat) : Vector (Option Watch) 8 :=
  v.map fun w => (w.filter fun w => decide (w.window ≠ .paused 0)).map fun w => { w with window := w.window.resume now }

/-- R126, R136: the results of the work of nest n that has no time left when its run is ACTIVE again, the gates' before the windows'
(log 11). -/
def State.spentWork (s : State) (n : Nest) : List (WorkId × WorkResult) :=
  ((s.mse.queue.filter fun r => decide (r.id.nest = n ∧ r.gate = .paused 0)).map fun r =>
    (r.id, ⟨.noResult, .gateTimeout, r.attempts, none⟩)) ++
  ((s.bus n).watches.toList.filterMap fun w => w.filter fun w => decide (w.window = .paused 0)).map fun w =>
    (⟨n, w.serial, w.seq⟩, ⟨if w.kind = .expect then .fail else .pass, .absent, 1, none⟩)

/-- R157: the Operator Port, w before, once a nest's run is ACTIVE: PROMPT_READY where no prompt was presented and the presentable set was
empty and is not any longer. s gives the prompts and runs before, active the ACTIVE runs after. -/
def PortWindow.readied (w : PortWindow) (s : State) (active : Nest → Bool) : PortWindow :=
  match if s.pru.presented? = none ∧ s.pru.presentableSet s.active = [] then s.pru.firstPresentable? active else none with
  | some y => w.post ⟨y.nest, .promptReady y.readyDetail⟩
  | none => w

/-- What a close does to one channel of the claim table (R68, R70). -/
def Channel.closedFor (ch : Channel) (n : Nest) : Channel :=
  if ch.owner = some n then
    { ch with
      owner := ch.waiter, waiter := none, stagedA := ch.safe, stagedB := 0, live := ch.safe, mode := .direct, source := .soft
      line := 0, edge := .none, phase := .a, sweepN := 16, startQ := 0, pos := 0, clamped := false }
  else if ch.waiter = some n then { ch with waiter := none }
  else ch

/-- What the STU, MSE, PRU and BEU do when a nest's run closes (R70, R76, R84, R126, R138, R145, R164); u is the PRU before it. -/
def ClosedIn (s t : State) (n : Nest) (u : Pru) : Prop :=
  (∀ c : Fin 16, (t.chan c).sameRecord ((s.chan c).closedFor n)) ∧ (∀ c, GeneratorsAdopt s t c) ∧
  t.stu.pace = s.stu.pace.set n { s.stu.pace.get n with timer := .stopped } ∧
  t.mse = { s.mse with engine := t.mse.engine, queue := s.mse.queue.filter fun r => r.id.nest != n } ∧ t.engineOff n ∧
  EngineChose s t (·.nest = n) ∧
  t.pru = { u with queue := u.queue.filter fun x => x.id.nest != n } ∧
  t.bus n = { s.bus n with watches := Vector.replicate 8 none }

/-- R68: the notices of a close or a release at the station port of the nest that waited: one CLAIM_GRANTED with the mask, or none. -/
def PortWindow.granted (w : PortWindow) (n : Nest) (mask : Word) : PortWindow :=
  if mask = 0#16 then w else w.post ⟨n, .claimGranted mask⟩

/-- The mask names exactly the channels of P. -/
def MaskOf (mask : Word) (P : Fin 16 → Prop) : Prop := ∀ c : Fin 16, inMask mask c = true ↔ P c

/-- R68, R70: the station port of the nest that waited for channels of nest n, after a close of n's run. -/
def GrantedAtClose (s t : State) (n : Nest) : Prop :=
  ∃ mask, (MaskOf mask fun c => (s.chan c).owner = some n ∧ (s.chan c).waiter = some n.other) ∧
    t.port n.other.port = (s.port n.other.port).granted n.other mask

/-- The presented prompt of u is an ordinary one of a piece of work of c, with its ticket (R154, R156). -/
def Pru.presents (u : Pru) (c : WorkId → Prop) (ticket : Nat) : Prop :=
  ∃ x, u.presented? = some (.ordinary x) ∧ c x.id ∧ x.pres = .presented ticket

/-- R163, R164: what the Operator Port, w before, is after a presented prompt of the work of c was taken away: PROMPT_WITHDRAWN with
its void ticket, or nothing where no such prompt was presented. -/
def WithdrawnNotice (u : Pru) (c : WorkId → Prop) (n : Nest) (d : WithdrawDetail) (w w' : PortWindow) : Prop :=
  (∀ ticket, u.presents c ticket → w' = w.post ⟨n, .promptWithdrawn ticket d⟩) ∧ ((∀ ticket, ¬ u.presents c ticket) → w' = w)

/-- R6 steps 1 to 4, Table 1-3. -/
def Rnc.closedBy (r : Rnc) (state : RunState) (cause : EndCause) (detail : EntryDetail) (verdict : Verdict) (clock : Quad) : Rnc :=
  { r with
    state := state, endCause := cause, endTime := some clock, verdict := verdict
    entries := r.entries.map fun e =>
      if e.outcome = .pending then { e with outcome := .noResult, detail := detail, value := none, done := some clock } else e }

/-- R41, R11, R151, R157: what the entry into FAULT with a cause does; s has the new level of the sense or line that caused it. -/
def FaultedIn (s t : State) (n : Nest) (cause : FaultCause) : Prop :=
  let f := s.fix n
  let r := s.run n
  let end_ : EndCause := if cause = .stop then .stop else .fixture
  let detail : RunDetail := if cause = .stop then .stop else .fixture
  let slots := s.pru.slots.set n (some ⟨4000 + cause.num, s.pru.arrivals, .waiting⟩)
  let u : Pru := { s.pru with slots := slots, arrivals := s.pru.arrivals + 1#16 }
  let w := (s.port n.port).post ⟨n, .fixtureState .fault (.fault cause)⟩
  t.fix n = { f with
    state := .fault, clampTimer := .stopped, releaseTimer := .stopped, cause := cause, permit := false, scan := none
    scanResult := if f.scan.isSome then .abandoned else f.scanResult
    firstFail := if f.scan.isSome then none else f.firstFail } ∧
  SameBeside s t n ∧
  (r.state.isOpen = false →
    t.run n = r ∧ t.port n.port = w ∧ t.port n.other.port = s.port n.other.port ∧ t.stu = s.stu ∧ t.mse = s.mse ∧ t.pru = u ∧
    t.bus n = s.bus n) ∧
  (r.state.isOpen = true →
    t.run n = r.closedBy .aborted end_ .aborted .aborted s.clock ∧ t.port n.port = w.post ⟨n, .runState .aborted detail⟩ ∧
    GrantedAtClose s t n ∧ ClosedIn s t n u) ∧
  (s.awaitsOperator n = false →
    let ready := s.pru.presented? = none ∧ s.pru.presentableSet s.active = []
    let w := if ready then (s.port .operator).post ⟨n, .promptReady .system⟩ else s.port .operator
    (r.state.isOpen = false → t.port .operator = w) ∧
    (r.state.isOpen = true → WithdrawnNotice s.pru (·.nest = n) n .aborted w (t.port .operator)))

/-- What both resets leave, whatever stood before; s gives the levels at the pins. -/
def ClearedByReset (s t : State) : Prop :=
  t.ms = 0 ∧ t.pending = s.pending ∧ t.stop = s.stop ∧
  (∀ p, (t.port p).mode = .ready ∧ (t.port p).code = .ok ∧ (t.port p).error = false ∧ (t.port p).pendingCompletion = false ∧
    (t.port p).collide = false ∧ (t.port p).attnEnable = false ∧ (t.port p).overflow = false ∧ (t.port p).notices = [] ∧
    (∀ i : Fin 8, (t.port p).params[i] = 0#16 ∧ (t.port p).named[i] = 0xFFFF#16 ∧ (t.port p).resp[i] = 0#16) ∧ (t.port p).attention = false) ∧
  (∀ n, t.run n = Rnc.idle 0#16) ∧
  (∀ n, (t.fix n).cause = .none ∧ (t.fix n).permit = false ∧ (t.fix n).clampTimer = .stopped ∧ (t.fix n).scanResult = .none ∧
    (t.fix n).firstFail = none ∧ (t.fix n).scan = none ∧ (t.fix n).lid = (s.fix n).lid ∧ (t.fix n).home = (s.fix n).home ∧
    (t.fix n).closed = (s.fix n).closed ∧ (t.fix n).pressure = (s.fix n).pressure ∧
    if (s.fix n).home then (t.fix n).state = .opened ∧ (t.fix n).releaseTimer = .stopped
    else (t.fix n).state = .releasing ∧ (t.fix n).releaseTimer = .running (t.fix n).releaseTimeout) ∧
  (∀ c : Fin 16, (t.chan c).owner = none ∧ (t.chan c).waiter = none ∧ (t.chan c).stagedA = (t.chan c).safe ∧
    (t.chan c).stagedB = 0 ∧ (t.chan c).live = (t.chan c).safe ∧ (t.chan c).mode = .direct ∧ (t.chan c).source = .soft ∧
    (t.chan c).line = 0 ∧ (t.chan c).edge = .none ∧ (t.chan c).phase = .a ∧ (t.chan c).sweepN = 16 ∧ (t.chan c).startQ = 0 ∧
    (t.chan c).pos = 0 ∧ (t.chan c).clamped = false ∧ t.output c = (t.chan c).safe ∧ t.routed c = false ∧
    (t.chan c).rate = if chanKind c = .pulse then (t.chan c).safe else 0) ∧
  (∀ n, (t.stu.pace.get n).period = 0 ∧ (t.stu.pace.get n).timer = .stopped) ∧
  (∀ l : Fin 4, t.tri[l].input = s.tri[l].input ∧ t.tri[l].filtered = s.tri[l].input ∧ t.tri[l].change = none) ∧
  (∀ n, (t.bus n).link = .off ∧ (t.bus n).txq = [] ∧ (t.bus n).sched = [] ∧ (t.bus n).tx = .idle ∧ (t.bus n).restartId = none ∧
    (∀ i : Fin 8, (t.bus n).watches[i] = none) ∧
    (∀ k : Fin 24, (t.bus n).bcast[k] = ⟨0#11, 0, Vector.replicate 8 0#8, 100, false, none, .stopped⟩) ∧
    ∀ k : Fin 16, (t.bus n).replies[k] = ⟨0#11, none, 0#11, ⟨0, Vector.replicate 8 0#8⟩, ⟨0, Vector.replicate 8 0#8⟩, 0, 1,
      .none, false, .zero, 0, 0, 0⟩) ∧
  t.mse.queue = [] ∧ t.mse.engine = .idle ∧ t.pru.queue = [] ∧ (∀ n, t.awaitsOperator n = false) ∧ t.pru.nextTicket = 1 ∧
  t.pru.arrivals = 0#16

/-- Beside the ports and the STU's channels nothing has changed, and each channel's record is what f makes of it. -/
def ChannelsBecome (s t : State) (f : Fin 16 → Channel → Channel) : Prop :=
  t = { s with ports := t.ports, stu := { s.stu with chans := t.stu.chans } } ∧ ∀ c : Fin 16, (t.chan c).sameRecord (f c (s.chan c))

/-- R75, R94, R135: an edge is delivered to the channels and to the requests of the queue. -/
def EdgeDelivered (s t : State) (l : Fin 4) (e : Edge) : Prop :=
  t = { s with stu := { s.stu with chans := t.stu.chans }, mse := { s.mse with engine := t.mse.engine, queue := t.mse.queue } } ∧
  (∀ c : Fin 16, (t.chan c).sameRecord
    (if (s.chan c).source = .line ∧ (s.chan c).line = l ∧ (s.chan c).edge.includes e = true ∧ (s.chan c).ownerActive s.active = true
      then (s.chan c).commit (chanTop c) else s.chan c)) ∧
  t.mse.queue = s.mse.queue.map fun r =>
    if r.gateLine = l ∧ r.gateEdge.includes e = true ∧ s.active r.id.nest = true ∧ r.seen = false then
      { r with seen := true, gate := .stopped }
    else r

/-- R19: several results, each taken or discarded in turn. -/
def State.results (s : State) (l : List (WorkId × WorkResult)) : State := l.foldl (fun s x => s.result x.1 x.2) s

/-- Table 10-10: the response words of TAKE PROMPT for a presented prompt, with its ticket. -/
def AnyPrompt.SpelledBy (x : AnyPrompt) (ticket now : Nat) (ws : List Word) : Prop :=
  let w := fun k => ws.getD k 0#16
  flagBit (w 0) 14 = decide (x.nest = .b) ∧ bitField (w 1) 0 8 = ticket % 256 ∧ flagBit (w 1) 11 = false ∧ flagBit (w 1) 15 = false ∧
  match x with
  | .system _ y => ws.length = 2 ∧ bitField (w 0) 0 12 = y.code % 4096 ∧ bitField (w 0) 12 2 = 1 ∧ flagBit (w 0) 15 = false ∧
      bitField (w 1) 8 8 = 0
  | .ordinary y => ws.length = 4 + y.params.length ∧ bitField (w 0) 0 12 = y.code % 4096 ∧ bitField (w 0) 12 2 = 2 ∧
      flagBit (w 0) 15 = y.urgent ∧ bitField (w 1) 8 3 = y.attempts % 8 ∧ bitField (w 1) 12 3 = y.params.length % 8 ∧
      bitField (w 2) 0 10 = y.timeout % 1024 ∧ bitField (w 2) 12 2 = y.answers.num ∧ bitField (w 2) 10 2 = 0 ∧
      bitField (w 2) 14 2 = 0 ∧
      (y.timer = .stopped → w 3 = 0#16) ∧
      (∀ e, y.timer = .running e → w 3 = BitVec.ofNat 16 (max 1 ((e - now + 999) / 1000))) ∧ ws.drop 4 = y.params

/-! ## Fixture data and scans (R53, R63) -/

/-- R63, Table 10-7: the words d hold the contents g. -/
def FixtureData.SpelledBy (g : FixtureData) (d : Nat → Word) : Prop :=
  d 0 = 1#16 ∧ d 1 = 32#16 ∧ (quadOf (d 2) (d 3)).toNat = g.limit ∧
  (∀ k : Fin 32, bitField (d (4 + 4 * k.val)) 0 3 = g.lines[k].role.num ∧
    (g.lines[k].role.exclusive = true → bitField (d (4 + 4 * k.val)) 8 4 = g.lines[k].role.arg) ∧
    bitField (d (5 + 4 * k.val)) 0 2 = g.lines[k].path.num ∧
    (∀ i, g.lines[k].path = .spare i → bitField (d (5 + 4 * k.val)) 4 3 = i.val) ∧
    flagBit (d (5 + 4 * k.val)) 8 = g.lines[k].mark ∧
    (quadOf (d (6 + 4 * k.val)) (d (7 + 4 * k.val))).toNat = g.lines[k].count) ∧
  ∀ i : Fin 6, (g.spares[i] = none → d (132 + i.val) = 0xFFFF#16) ∧ ∀ k, g.spares[i] = some k → (d (132 + i.val)).toNat = k.val

/-- R63 step 1: the ranges, and the worn flags, which follow from the counts and the limit. -/
def FixtureData.InRange (g : FixtureData) : Prop :=
  1 ≤ g.limit ∧ g.limit ≤ 16000000 ∧
  ∀ k : Fin 32, g.lines[k].count ≤ 16777215 ∧ (g.lines[k].role = .unused → g.lines[k].path = .primary ∧ g.lines[k].mark = false) ∧
    (g.lines[k].path = .lost → g.lines[k].mark = false) ∧ g.lines[k].worn = decide (g.limit ≤ g.lines[k].count)

/-- R53: the next line of the fixed set is connected for 12 ms, or no test is left. -/
def Scan.MovesOn (x y : Scan) : Prop :=
  (x.todo = [] → y = { x with target := .finished }) ∧
  ∀ k rest, x.todo = k :: rest → y = { x with target := .line k, due := x.due + 12, todo := rest }

/-- R131 step 3, R147: a request of nest n that the line with this role serves. -/
abbrev Request.servedBy (r : Request) (n : Nest) (role : Role) : Prop :=
  r.id.nest = n ∧ r.kind ≠ .current ∧ r.kind ≠ .zero ∧ role = .sense r.input

/-- R57 step 2, R58, R147: the notices of the lines a scan has lost, in order: LINE_LOST, and after it the ENTRY_DONE of each request of q
that the line served and that no line before it has ended, in queue order. -/
def lostNotices (f : Fxc) (n : Nest) : List (Fin 32 × LossCause) → List Request → List NoticeBody
  | [], _ => []
  | x :: rest, q =>
    .lineLost x.1 x.2 ::
      ((q.filter fun r => decide (r.servedBy n f.lines[x.1].role)).map fun r => .entryDone r.id.seq .noResult) ++
      lostNotices f n rest (q.filter fun r => decide (¬ r.servedBy n f.lines[x.1].role))

/-! ## Ports (R169 to R175) -/

/-- The number of words an incoming transfer has (R62, R111). -/
def InTarget.size : InTarget → Nat
  | .fixtureData _ => 138
  | .replyEntry _ _ => 15

def InTarget.nest : InTarget → Nest
  | .fixtureData n => n
  | .replyEntry n _ => n

/-- R170, R171: an open transfer has words left, for the block it was opened for. -/
def PortMode.Sound : PortMode → Prop
  | .ready => True
  | .busy (.complete _ _) => True
  | .busy (.sendOut words) => words ≠ []
  | .busy (.takeIn t n) => n = t.size
  | .dataOut left => left ≠ []
  | .dataIn t need got => need = t.size ∧ got.length < need

/-- The notice queue's capacity, OVERFLOW only while notices stand (R175), ERROR (R169), and no completion pending while a command
or a transfer is under way (R168, R170, R171). -/
def PortWindow.Sound (w : PortWindow) : Prop :=
  w.notices.length ≤ Config.noticeCap ∧ (w.overflow = true → w.notices ≠ []) ∧ (w.error = true ↔ w.code ≠ .ok) ∧
  (w.pendingCompletion = true → w.mode = .ready) ∧ w.mode.Sound

def PortsSound (s : State) : Prop := ∀ p, (s.port p).Sound

/-- The nest whose fixture data a port's transfer will replace (R62). -/
def PortMode.restores? : PortMode → Option Nest
  | .busy (.takeIn (.fixtureData n) _) => some n
  | .dataIn (.fixtureData n) _ _ => some n
  | .ready | .busy _ | .dataOut _ | .dataIn _ _ _ => none

/-! ## Capacities (R4, R15, R105, R119, R130, R150) -/

def CapacitiesKept (s : State) : Prop :=
  (∀ n, (s.run n).entries.length ≤ Config.recordCap ∧ (s.run n).holdCount ≤ Config.holdLimit ∧
    ((s.run n).state.isOpen = true → (s.run n).holdCount < Config.holdLimit) ∧
    (s.run n).busErrors ≤ 65535 ∧
    (s.bus n).txq.length ≤ Config.txCap ∧ (s.bus n).sched.length ≤ Config.schedCap ∧
    s.mse.ofNest n ≤ Config.requestShare ∧ s.pru.ofNest n ≤ Config.promptShare) ∧
  s.mse.queue.length ≤ Config.requestCap ∧ s.pru.queue.length ≤ Config.promptCap

/-! ## Runs and fixtures (R1, R27, R28, R41 to R44, R62) -/

/-- R27, R33: a scan stands exactly in SCANNING, the clamp timer runs exactly in CLOSING, the release timer in RELEASING. -/
def Fxc.CycleSound (f : Fxc) : Prop :=
  (f.scan.isSome = true ↔ f.state = .scanning) ∧ (f.clampTimer ≠ .stopped ↔ f.state = .closing) ∧
  (f.releaseTimer ≠ .stopped ↔ f.state = .releasing)

/-- R1: a nest's run is ACTIVE only while its fixture is CONTACTED. -/
def RunsOnContact (s : State) : Prop := ∀ n, (s.fix n).CycleSound ∧ (s.active n = true → (s.fix n).state = .contacted)

/-- R41 to R44, R151: the system prompt stands exactly while the fixture is in FAULT without its release permit. -/
def FaultsAwaitOperator (s : State) : Prop :=
  ∀ n, s.awaitsOperator n = true ↔ (s.fix n).state = .fault ∧ (s.fix n).permit = false

/-! ## Probe map (R48, R50, R60) -/

/-- R48, R63: what one line record satisfies. -/
def Line.Sound (l : Line) (limit : Nat) : Prop :=
  (l.role = .unused → l.path = .primary ∧ l.mark = false) ∧ (l.path = .lost → l.mark = false) ∧ l.count ≤ Config.contactCap ∧
  (l.worn = true ↔ limit ≤ l.count)

/-- R48: an exclusive role is given to at most one line. -/
def RolesDistinct (lines : Vector Line 32) : Prop :=
  ∀ j k : Fin 32, lines[j].role = lines[k].role → lines[j].role.exclusive = true → j = k

/-- R50: a line's path is SPARE(s) exactly when spare s is assigned to it. -/
def PoolSound (paths : Vector Path 32) (spares : Vector (Option (Fin 32)) 6) : Prop :=
  ∀ (k : Fin 32) (i : Fin 6), paths[k] = .spare i ↔ spares[i] = some k

def Fxc.MapSound (f : Fxc) : Prop :=
  (∀ k : Fin 32, f.lines[k].Sound f.wearLimit) ∧ RolesDistinct f.lines ∧ PoolSound (f.lines.map Line.path) f.spares ∧
  1 ≤ f.wearLimit ∧ f.wearLimit ≤ Config.wearLimitMax

/-- The lines a scan has still to finish testing, the one under test first. -/
def Scan.toTest (sc : Scan) : List (Fin 32) :=
  match sc.target with
  | .line k | .spare k _ => k :: sc.todo
  | .settle | .finished => sc.todo

/-- R53 to R55: the working view of a scan. A line is tested once; the pool agrees with the working paths but for a spare under
test, which is given to its line before the line's path names it. -/
def Scan.Sound (sc : Scan) (lines : Vector Line 32) : Prop :=
  (∀ k : Fin 32, k ∈ sc.tested ↔ lines[k].used = true ∧ lines[k].path ≠ .lost) ∧
  (∀ k : Fin 32, k ∉ sc.tested → sc.paths[k] = lines[k].path) ∧
  (∀ k : Fin 32, k ∈ sc.tested → sc.paths[k] = .lost → sc.marks[k] = false) ∧
  sc.toTest.Nodup ∧ (∀ k ∈ sc.toTest, k ∈ sc.tested ∧ sc.paths[k] ≠ .lost) ∧
  match sc.target with
  | .spare k i => sc.paths[k] = .primary ∧ sc.spares[i] = some k ∧ PoolSound sc.paths (sc.spares.set i none)
  | .line _ | .settle | .finished => PoolSound sc.paths sc.spares

/-- The probe maps and the scans in progress are sound, a scan stands only in SCANNING, and a transfer that will replace a nest's
fixture data stands at its own port, with the fixture OPEN and the run IDLE (R62). -/
def MapsSound (s : State) : Prop :=
  (∀ n, (s.fix n).MapSound ∧ (s.fix n).CycleSound ∧ ∀ sc, (s.fix n).scan = some sc → sc.Sound (s.fix n).lines) ∧
  ∀ p n, (s.port p).mode.restores? = some n → p = n.port ∧ (s.fix n).state = .opened ∧ (s.run n).state = .idle

/-! ## Stimulus (R66, R76, R80, R81, R84) -/

/-- R66: claims are held only by nests with an open run, a waiter is never the owner, and an unclaimed channel has none. -/
def ClaimsSound (s : State) : Prop :=
  ∀ c : Fin 16, ∀ n, ((s.chan c).owner = some n → (s.run n).state.isOpen = true) ∧
    ((s.chan c).waiter = some n → (s.run n).state.isOpen = true ∧ (s.chan c).owner = some n.other)

/-- R80, R91: values in the range of the kind, a position in the sweep, and no sweep on a SWITCH channel. -/
def Channel.InRange (ch : Channel) (c : Fin 16) : Prop :=
  ch.safe ≤ chanTop c ∧ ch.stagedA ≤ chanTop c ∧ ch.stagedB ≤ chanTop c ∧ ch.live ≤ chanTop c ∧ sweepPeriodOk ch.sweepN = true ∧
  ch.startQ ≤ 3 ∧ ch.pos < ch.sweepN ∧ (ch.mode = .sweep → chanKind c ≠ .switch)

def ChannelsInRange (s : State) : Prop := ∀ c : Fin 16, (s.chan c).InRange c

/-- R84: only PULSE channels have a rate, and a generator at rate 0 has an output of 0. -/
def GeneratorsFollow (s : State) : Prop :=
  ∀ c : Fin 16, (chanKind c ≠ .pulse → (s.chan c).rate = 0) ∧ (chanKind c = .pulse → (s.chan c).rate = 0 → s.output c = 0)

/-- R76: a pace timer's state follows the period and the run state. -/
def Pace.Follows (x : Pace) (st : RunState) : Prop :=
  match st, x.timer with
  | .active, .running _ | .held, .paused _ => x.period ≠ 0
  | .active, .stopped | .held, .stopped => x.period = 0
  | .idle, .stopped | .ended, .stopped | .aborted, .stopped => True
  | _, _ => False

def PaceFollowsRun (s : State) : Prop := ∀ n, (s.stu.pace.get n).Follows (s.run n).state

/-! ## Trigger lines (R73) -/

/-- R73: a change is pending exactly while the input differs from the filtered level. -/
def TriggersSound (s : State) : Prop :=
  ∀ l : Fin 4, (s.tri[l].change.isSome = true ↔ s.tri[l].input ≠ s.tri[l].filtered) ∧ s.tri[l].filter ≤ 50

/-! ## Bus emulation (R103 to R108, R111, R126) -/

/-- R103 to R108: outside ACTIVE nothing is queued or scheduled and no timer runs; in ACTIVE exactly the enabled entries' timers
run; only the head frame is sent. -/
def Beu.LinkSound (b : Beu) : Prop :=
  (b.link ≠ .active → b.txq = [] ∧ b.sched = [] ∧ b.tx ≠ .sending ∧ ∀ k : Fin 24, b.bcast[k].timer = .stopped) ∧
  (b.link = .active → ∀ k : Fin 24, b.bcast[k].timer ≠ .stopped ↔ b.bcast[k].enabled = true) ∧
  (b.tx = .sending → b.txq ≠ [])

/-- R107, R110 to R112: entry fields in range; a disarmed entry has no one-shot flag. -/
def Beu.TablesSound (b : Beu) : Prop :=
  (∀ k : Fin 24, b.bcast[k].len ≤ 8 ∧ 10 ≤ b.bcast[k].period ∧ b.bcast[k].period ≤ 10000 ∧
    ∀ x, b.bcast[k].linked = some x → x.offset + 2 ≤ b.bcast[k].len) ∧
  ∀ k : Fin 16, b.replies[k].buf0.len ≤ 8 ∧ b.replies[k].buf1.len ≤ 8 ∧ b.replies[k].delay ≤ 255 ∧ 1 ≤ b.replies[k].defer ∧
    b.replies[k].defer ≤ 5000 ∧ (b.replies[k].oneShot = true → b.replies[k].armed = true) ∧ b.replies[k].matchCount ≤ 65535 ∧
    b.replies[k].replyCount ≤ 65535 ∧ b.replies[k].dropCount ≤ 65535

/-- R101, R106: a queued frame has at most 8 bytes and has failed fewer than 8 attempts. -/
def TxFrame.Sound (f : TxFrame) : Prop := f.frame.data.length ≤ 8 ∧ f.attempts < 8

def LinksSound (s : State) : Prop :=
  ∀ n, (s.bus n).LinkSound ∧ (s.bus n).TablesSound ∧ ∀ f ∈ (s.bus n).txq, f.Sound

/-- R123, R126: a timer of a piece of work that waits: it runs while the run is ACTIVE and is PAUSED while it is HELD. -/
def RunTimer.Follows (t : RunTimer) (st : RunState) : Prop :=
  match st, t with
  | .active, .running _ | .held, .paused _ => True
  | _, _ => False

def WindowsFollowRun (s : State) : Prop :=
  ∀ n, ∀ i : Fin 8, ∀ w, (s.bus n).watches[i] = some w → w.window.Follows (s.run n).state

/-! ## Work and entries (R18) -/

/-- A piece of work an owner holds: the kind of entry it belongs to, its run serial and its sequence number. -/
structure Work where
  kind : EntryKind
  serial : BitVec 16
  seq : Nat
deriving DecidableEq, Repr

def Request.entryKind (r : Request) : EntryKind := if r.kind = .zero then .calibration else .measure

def Watch.entryKind (w : Watch) : EntryKind :=
  match w.kind with
  | .expect => .busExpect
  | .forbid => .busForbid

/-- R18: the requests in the queue, the ordinary prompts and the armed watches of one nest. -/
def State.works (s : State) (n : Nest) : List Work :=
  ((s.mse.queue.filter fun r => r.id.nest == n).map fun r => ⟨r.entryKind, r.id.serial, r.id.seq⟩) ++
  ((s.pru.queue.filter fun x => x.id.nest == n).map fun x => ⟨.prompt, x.id.serial, x.id.seq⟩) ++
  (s.bus n).watches.toList.filterMap fun w => w.map fun w => ⟨w.entryKind, w.serial, w.seq⟩

/-- R17, R18, R19: the work held for a nest is that of the current run, each piece for its own PENDING entry of its kind, each
PENDING entry has its work, and a run that is not open has none. -/
def WorkMatchesRecord (s : State) : Prop :=
  ∀ n, (∀ w ∈ s.works n, w.serial = (s.run n).serial ∧
      ∃ e, (s.run n).entry? w.seq = some e ∧ e.isPending = true ∧ e.kind = w.kind) ∧
    ((s.works n).map Work.seq).Nodup ∧
    (∀ seq e, (s.run n).entry? seq = some e → e.isPending = true → (s.run n).state.isOpen = true ∧ seq ∈ (s.works n).map Work.seq)

/-! ## Measurement engine (R130, R135, R136, R138) -/

/-- R136: an ungated request has no timer, a seen one's is STOPPED, and that of one that waits for its edge follows the run. -/
def Request.GateSound (r : Request) (st : RunState) : Prop :=
  if r.gated && !r.seen then r.gate.Follows st else r.gate = .stopped

/-- R139 to R141: the phase fits the request: its length, and samples or a window by its kind. -/
def EnginePhase.Fits (ph : EnginePhase) (r : Request) : Prop :=
  match ph with
  | .settling _ => True
  | .measuring b e (.samples _ taken) => e = b + r.amount ∧ r.kind.sampled = true ∧ taken ≤ r.amount
  | .measuring b e (.window _ _ _ _) => e = b + r.amount ∧ r.kind.sampled = false

/-- R138: a WORKING engine works on a ready request of the queue whose nest's run is ACTIVE; an IDLE one has no request to choose. -/
def EngineSound (s : State) : Prop :=
  (∀ r ∈ s.mse.queue, r.GateSound (s.run r.id.nest).state) ∧
  match s.mse.engine with
  | .idle => ∀ r ∈ s.mse.queue, r.ready = true → s.active r.id.nest = false
  | .working id _ ph => ∃ r ∈ s.mse.queue, r.id = id ∧ r.ready = true ∧ s.active id.nest = true ∧ ph.Fits r

/-! ## Prompts (R150, R154 to R156) -/

/-- R155, R162, R163: a WAITING prompt has no timer; a PRESENTED one has a ticket of 1 to 255, an ACTIVE run, and a running timer
exactly when its timeout is not 0. -/
def Prompt.Sound (x : Prompt) (active : Nest → Bool) : Prop :=
  match x.pres with
  | .waiting => x.timer = .stopped
  | .presented t => 1 ≤ t ∧ t ≤ 255 ∧ active x.id.nest = true ∧ (x.timer = .stopped ↔ x.timeout = 0)

/-- R154: at most one prompt is presented. -/
def PromptsSound (s : State) : Prop :=
  (s.pru.all.countP fun x => x.pres != .waiting) ≤ 1 ∧ (∀ x ∈ s.pru.queue, x.Sound s.active ∧ 1 ≤ x.attempts ∧ x.attempts ≤ 4) ∧
  1 ≤ s.pru.nextTicket ∧ s.pru.nextTicket ≤ 255

end Sys2Proof.Machine
end

