-- ==== Sys2Proof/Certificates/Slice0/Obligations.lean ====
section
/-! DEFINITION. The statements for the provers, block by block: what each event does and what it leaves unchanged, then the invariants
every step keeps. A statement cites the rules it rests on; log <n> names an entry of the assumption log it rests on.
Every statement of a command that is taken says of its port what PortWindow.taken does: BUSY with the answer of the same step (log 1), and
the layout of the PARAM words (log 7). Where the generators follow an output (GeneratorsAdopt), the moment at which a period from rate 0
begins is log 17. -/

open Sys2Proof Sys2Proof.Machine

/-! ## The machine -/

/-- A step takes the event at the front of the queue and answers what exec answers on the queue's rest; on an empty queue the part
idles, which is the model's choice (log 2). -/
def Obligations.StepRunsFrontEvent : Prop :=
  (∀ (i : Instr) (rest : List Instr) (s : State), step { s with pending := i :: rest } = exec i { s with pending := rest }) ∧
  ∀ s : State, s.pending = [] → step s = .next s

/-- Every event has an effect in every state: exec answers a next state, and leaves the queue of waiting events as it was. That an event which
cannot happen in a state answers a next state too, the same one, is log 12; the queue, which no event changes, POWER ON and RESET LINE
included, is the model's own field (log 25). -/
def Obligations.EveryEventAnswersNext : Prop := ∀ (i : Instr) (s : State), ∃ t, exec i s = .next t ∧ t.pending = s.pending

/-! ## Resets (R1, R14, R47, R64, R66, R73, R76, R100, R129, R149, R166, R177) -/

/-- RESET LINE: every block is reset; the timeouts, the fixture data, the safe values, the filter times, the offsets and the gate
timeouts are kept, and the reset cause is RESET_LINE. That the levels at the input pins stay is log 20, that the waiting events stay
queued log 25. -/
def Obligations.ResetLineResult : Prop :=
  ∀ s : State, ∃ t, exec .resetLine s = .next t ∧ ClearedByReset s t ∧ t.resetCause = .resetLine ∧
    (∀ n, (t.fix n).clampTimeout = (s.fix n).clampTimeout ∧ (t.fix n).releaseTimeout = (s.fix n).releaseTimeout ∧
      (t.fix n).lines = (s.fix n).lines ∧ (t.fix n).spares = (s.fix n).spares ∧ (t.fix n).wearLimit = (s.fix n).wearLimit) ∧
    (∀ c : Fin 16, (t.chan c).safe = (s.chan c).safe) ∧ (∀ l : Fin 4, t.tri[l].filter = s.tri[l].filter) ∧
    t.mse.offset = s.mse.offset ∧ t.mse.gateTimeout = s.mse.gateTimeout

/-- POWER ON: every block takes its power-on values, whatever stood before. That the levels at the input pins stay is log 20, that the
waiting events stay queued log 25. -/
def Obligations.PowerOnResult : Prop :=
  ∀ s : State, ∃ t, exec .powerOn s = .next t ∧ ClearedByReset s t ∧ t.resetCause = .powerOn ∧
    (∀ n, (t.fix n).clampTimeout = 1500 ∧ (t.fix n).releaseTimeout = 1500 ∧ (t.fix n).wearLimit = 250000 ∧
      (∀ k : Fin 32, (t.fix n).lines[k] = ⟨.unused, .primary, false, 0, false⟩) ∧
      ∀ i : Fin 6, (t.fix n).spares[i] = none) ∧
    (∀ c : Fin 16, (t.chan c).safe = 0) ∧ (∀ l : Fin 4, t.tri[l].filter = 2) ∧
    (∀ n, t.mse.offset.get n = 0 ∧ t.mse.gateTimeout.get n = 5000)

/-! ## Ports (Chapter 9) -/

/-- Tables 10-3 and 9-3: at every port a COMMAND word whose bits 7:0 are a code of Table 10-3 is that code's command where Table 9-3
permits it, and the UNDEFINED COMMAND row where it does not; every other code, 0x00 among them, is that row; bits 15:8 are ignored. -/
def Obligations.CommandWordsDecode : Prop :=
  (∀ x ∈ commandCodes, ∀ (p : Port) (w : Word), bitField w 0 8 = x.1 → ∃ k, commandAt? (x.2 p) = some (p, k) ∧
    (k.at p = true → decodeCommand p w = x.2 p) ∧ (k.at p = false → decodeCommand p w = .undefinedCommand p w)) ∧
  (∀ (p : Port) (w : Word), (∀ x ∈ commandCodes, bitField w 0 8 ≠ x.1) → decodeCommand p w = .undefinedCommand p w) ∧
  (commandCodes.map Prod.fst).Nodup ∧ commandCodes.length = 54 ∧
  ∀ (i : Instr) (p : Port) (k : Permitted), commandAt? i = some (p, k) → ∃ x ∈ commandCodes, x.2 p = i

/-- R174: a COMMAND written while the port is not READY changes nothing but COLLIDE (and the place of the transaction, R167).
R168, R169: one written in READY whose code is not defined, or not permitted at the port, completes with UNKNOWN and reaches no
block. -/
def Obligations.CommandNotTaken : Prop :=
  ∀ (i : Instr) (p : Port) (s : State),
    ((∃ k, commandAt? i = some (p, k)) ∨ ∃ w, i = .undefinedCommand p w ∧ decodeCommand p w = .undefinedCommand p w) →
    (s.port p).spi = some ⟨true, 0⟩ →
    ((s.port p).mode ≠ .ready → exec i s = .next (s.setPort p { s.port p with spi := some ⟨true, 1⟩, collide := true })) ∧
    ((s.port p).mode = .ready → (∀ k, commandAt? i = some (p, k) → k.at p = false) →
      exec i s = .next (s.setPort p { s.port p with
        spi := some ⟨true, 1⟩, mode := .ready, code := .unknown, error := true, resp := Vector.replicate 8 0#16
        pendingCompletion := true }))

/-- R168, R169: a permitted command written in READY leaves the port BUSY with its answer, and a refusal (a completion other than
OK) carries no response words and changes nothing but the port. That the answer is formed in the step of the COMMAND write, and only
taken at COMMAND ANSWER, is log 1; what the PARAM words then read back is log 7. -/
def Obligations.TakenCommandIsBusyAndRefusalChangesNothing : Prop :=
  ∀ (i : Instr) (p : Port) (k : Permitted) (s : State), commandAt? i = some (p, k) → k.at p = true → s.Accepts p →
    ∃ t x, exec i s = .next t ∧
      t.port p = { (s.port p).taken x (paramBits i) with notices := (t.port p).notices, overflow := (t.port p).overflow } ∧
      ∀ c resp, x = .complete c resp → c ≠ .ok → resp = [] ∧ t = s.answered p x (paramBits i)

/-- R168 to R171: what the answer a BUSY port awaits does; in any other state none is awaited, and the event does nothing (log 3, log
12). Of the answers that port resets abandoned the oldest is discarded first (log 18). -/
def Obligations.CommandAnswerTaken : Prop :=
  ∀ (p : Port) (s : State),
    (∀ c resp, (s.port p).mode = .busy (.complete c resp) →
      exec (.commandAnswer p .awaited) s = .next (s.setPort p { s.port p with
        mode := .ready, code := c, error := decide (c ≠ .ok), resp := Vector.ofFn fun i => resp.getD i.val 0#16
        pendingCompletion := true })) ∧
    (∀ words, (s.port p).mode = .busy (.sendOut words) →
      exec (.commandAnswer p .awaited) s = .next (s.setPort p { s.port p with
        mode := .dataOut words, pendingCompletion := false
        resp := Vector.ofFn fun i => if i.val = 0 then BitVec.ofNat 16 words.length else 0#16 })) ∧
    (∀ target count, (s.port p).mode = .busy (.takeIn target count) →
      exec (.commandAnswer p .awaited) s = .next (s.setPort p { s.port p with
        mode := .dataIn target count [], pendingCompletion := false
        resp := Vector.ofFn fun i => if i.val = 0 then BitVec.ofNat 16 count else 0#16 })) ∧
    ((∀ x, (s.port p).mode ≠ .busy x) → exec (.commandAnswer p .awaited) s = .next s) ∧
    exec (.commandAnswer p .abandoned) s = .next (s.setPort p { s.port p with late := (s.port p).late.tail })

/-- R172, R173: the STATUS word as the port stood before the read, what the read acknowledges, and ALT STATUS, which reads the same
word; the attention output. -/
def Obligations.StatusReadResult : Prop :=
  ∀ (p : Port) (s : State),
    ((s.port p).spi = some ⟨false, 0⟩ →
      exec (.statusRead p) s = .next (s.setPort p { s.port p with
        spi := some ⟨false, 1⟩, out := (s.port p).status, pendingCompletion := false, collide := false })) ∧
    (let w := (s.port p).status
     bitField w 0 2 = (match (s.port p).mode with
       | .ready => 0
       | .busy _ => 1
       | .dataOut _ => 2
       | .dataIn _ _ _ => 3) ∧
     flagBit w 2 = (s.port p).error ∧ flagBit w 3 = (s.port p).collide ∧ flagBit w 4 = (s.port p).attention ∧
     flagBit w 5 = (s.port p).overflow ∧ bitField w 6 2 = 0 ∧ bitField w 8 8 = (s.port p).code.num ∧
     (s.port p).readSlot 0 = w ∧ (s.port p).readSlot 1 = w) ∧
    ((s.port p).attention = true ↔
      ((s.port p).pendingCompletion = true ∧ (s.port p).attnEnable = true) ∨ (s.port p).notices ≠ [])

/-- R170: a read of DATA in DATA_OUT returns the next word, and after the last one the port is READY with OK pending; in any other
port state it returns zero. A read transaction that stands at a slot from 1 to 17 passes on to DATA first, since the reads on the way
change nothing (log 6). R171: a word written to DATA in DATA_IN is held aside; in any other port state it stores nothing. -/
def Obligations.DataAccesses : Prop :=
  (∀ (p : Port) (k : Nat) (s : State), (s.port p).spi = some ⟨false, k⟩ →
    (1 ≤ k → k ≤ 18 →
      (∀ w rest, (s.port p).mode = .dataOut (w :: rest) → rest ≠ [] →
        exec (.dataRead p) s = .next (s.setPort p { s.port p with spi := some ⟨false, 18⟩, out := w, mode := .dataOut rest })) ∧
      (∀ w, (s.port p).mode = .dataOut [w] →
        exec (.dataRead p) s = .next (s.setPort p { s.port p with
          spi := some ⟨false, 18⟩, out := w, mode := .ready, code := .ok, error := false, pendingCompletion := true })) ∧
      ((∀ words, (s.port p).mode ≠ .dataOut words) →
        exec (.dataRead p) s = .next (s.setPort p { s.port p with spi := some ⟨false, 18⟩, out := 0#16 }))) ∧
    (k = 0 ∨ 18 < k → exec (.dataRead p) s = .next s)) ∧
  (∀ (p : Port) (s : State), (∀ k, (s.port p).spi ≠ some ⟨false, k⟩) → exec (.dataRead p) s = .next s) ∧
  ∀ (p : Port) (w : Word) (s : State), (s.port p).spi = some ⟨true, 18⟩ →
    (∀ target need got, (s.port p).mode = .dataIn target need got → got.length + 1 < need →
      exec (.dataWrite p w) s = .next (s.setPort p { s.port p with mode := .dataIn target need (got ++ [w]) })) ∧
    ((∀ target need got, (s.port p).mode ≠ .dataIn target need got) → exec (.dataWrite p w) s = .next s)

/-- R175: a posted notice joins a queue of fewer than 16 and is dropped with OVERFLOW by a full one; NOTICE POP removes the head, and
clears OVERFLOW when it leaves the queue empty; the NOTICE slots show the head. -/
def Obligations.NoticeQueueRules : Prop :=
  (∀ (w : PortWindow) (x : Notice),
    (w.notices.length < 16 → w.post x = { w with notices := w.notices ++ [x] }) ∧
    (16 ≤ w.notices.length → w.post x = { w with overflow := true })) ∧
  (∀ (p : Port) (v : Word) (s : State), (s.port p).spi = some ⟨true, 23⟩ →
    (∀ x y rest, (s.port p).notices = x :: y :: rest →
      exec (.noticePop p v) s = .next (s.setPort p { s.port p with notices := y :: rest })) ∧
    (∀ x, (s.port p).notices = [x] →
      exec (.noticePop p v) s = .next (s.setPort p { s.port p with notices := [], overflow := false })) ∧
    ((s.port p).notices = [] → exec (.noticePop p v) s = .next s)) ∧
  (∀ (w : PortWindow), w.notices = [] → ∀ k, 19 ≤ k → k ≤ 22 → w.readSlot k = 0#16) ∧
  (∀ (w : PortWindow) (x : Notice) (rest : List Notice), w.notices = x :: rest →
    w.readSlot 19 = BitVec.ofNat 16 x.body.kind ∧ w.readSlot 20 = (match x.nest with
      | .a => 0#16
      | .b => 1#16) ∧
    w.readSlot 21 = BitVec.ofNat 16 x.body.ref ∧ w.readSlot 22 = BitVec.ofNat 16 x.body.detail)

/-- R167, Table 9-1: the header word, writes to the PARAM slots and to the slots without effect, and what PARAM, RESPONSE and
PORT CONTROL read back. PARAM reads back with its reserved bits at 0 (R179): those of the command last taken, by Tables 10-8 and 10-9,
and none in a word written since (log 7; the flags of CLAIM CHANNELS and SET RESTART IDENTIFIER are log 8). R173, R176: a write of PORT
CONTROL sets the attention-enable flag; with the port-reset flag it then resets that port alone, and an answer it abandons is still to
come (log 18). -/
def Obligations.WindowAccesses : Prop :=
  (∀ (p : Port) (w : Word) (s : State), exec (.spiHeaderWord p w) s =
    .next (s.setPort p { s.port p with spi := some ⟨flagBit w 15, bitField w 0 5⟩ })) ∧
  (∀ (p : Port) (w : Word) (k : Nat) (s : State), (s.port p).spi = some ⟨true, k⟩ →
    (∀ i : Fin 8, k = 2 + i.val →
      exec (.windowWrite p w) s = .next (s.setPort p { s.port p with
        spi := some ⟨true, k + 1⟩, params := (s.port p).params.set i w, named := (s.port p).named.set i 0xFFFF#16 })) ∧
    (k = 1 ∨ 10 ≤ k ∧ k ≤ 17 ∨ 19 ≤ k ∧ k ≤ 22 ∨ 25 ≤ k →
      exec (.windowWrite p w) s = .next (s.setPort p { s.port p with spi := some ⟨true, k + 1⟩ }))) ∧
  (∀ w : PortWindow, (∀ i : Fin 8, w.readSlot (2 + i.val) = w.params[i] &&& w.named[i] ∧ w.readSlot (10 + i.val) = w.resp[i]) ∧
    w.readSlot 23 = 0#16 ∧ w.readSlot 24 = (if w.attnEnable then 1#16 else 0#16) ∧ ∀ k, 25 ≤ k → w.readSlot k = 0#16) ∧
  (∀ p : Port,
    let all := 0xFFFF#16
    paramBits (.postVerdict p) = #v[all, all, 0x0001#16, all, all, all, all, all] ∧
    paramBits (.claimChannels p) = #v[all, 0x0001#16, all, all, all, all, all, all] ∧
    paramBits (.setRestartIdentifier p) = #v[all, 0x0001#16, all, all, all, all, all, all] ∧
    paramBits (.readReplyEntry p) = #v[all, 0x0001#16, all, all, all, all, all, all] ∧
    paramBits (.writeBroadcastEntry p) = #v[0x031F#16, 0xF7FF#16, all, all, all, all, all, 0x0F07#16] ∧
    paramBits (.armReply p) = #v[all, 0x0107#16, all, all, all, all, all, all] ∧
    paramBits (.armWatch p) = #v[all, 0xB7FF#16, 0x07FF#16, 0x07FF#16, all, all, all, all] ∧
    paramBits (.requestMeasurement p) = #v[all, 0xBF7F#16, all, all, all, all, all, all] ∧
    paramBits (.postPrompt p) = #v[all, 0xBFFF#16, 0x73FF#16, all, all, all, all, all] ∧
    ∀ i : Instr, i ∉ [.postVerdict p, .claimChannels p, .setRestartIdentifier p, .readReplyEntry p, .writeBroadcastEntry p,
      .armReply p, .armWatch p, .requestMeasurement p, .postPrompt p] → (∃ k, commandAt? i = some (p, k)) →
      paramBits i = Vector.replicate 8 all) ∧
  ∀ (p : Port) (on : Bool) (s : State), (s.port p).spi = some ⟨true, 24⟩ →
    exec (.attentionEnable p on) s = .next (s.setPort p { s.port p with spi := some ⟨true, 25⟩, attnEnable := on }) ∧
    ∃ late, exec (.portReset p on) s = .next (s.setPort p { s.port p with
      spi := some ⟨true, 25⟩, attnEnable := on, mode := .ready, late := late, params := Vector.replicate 8 0#16
      named := Vector.replicate 8 0xFFFF#16, resp := Vector.replicate 8 0#16, code := .ok, error := false, pendingCompletion := false, collide := false
      notices := [], overflow := false }) ∧
      late = (match (s.port p).mode with
        | .busy x => (s.port p).late ++ [x]
        | .ready | .dataOut _ | .dataIn _ _ _ => (s.port p).late)

/-- R178: IDENTIFY at each of the three ports, in every state of every block. That the port is then BUSY with the answer of this step is log
1; the layout its PARAM words take is log 7. -/
def Obligations.IdentifyResult : Prop :=
  ∀ (p : Port) (s : State), s.Accepts p →
    exec (.identify p) s = .next (s.answered p (okWith [0x7A51#16, 0x6240#16, 3#16,
      (match p with
        | .stationA => 0#16
        | .stationB => 1#16
        | .operator => 2#16),
      (match s.resetCause with
        | .powerOn => 0#16
        | .resetLine => 1#16),
      s.clock.extractLsb' 16 16, s.clock.extractLsb' 0 16]))


/-! ## Runs and records (Chapter 1) -/

/-- OPEN RUN (R2), and what the other blocks do on the report (R13, Table 1-5). The order of the response words, open time first, is
log 9. Work that a state no run reaches holds for the IDLE nest is taken as at RESUME RUN, and its results are discarded (R19). -/
def Obligations.OpenRunResult : Prop :=
  ∀ (n : Nest) (s : State), s.Accepts n.port →
    ((s.run n).state ≠ .idle → exec (.openRun n.port) s = .next (s.answered n.port (.complete .wrongState []))) ∧
    ((s.run n).state = .idle → s.stop = true →
      exec (.openRun n.port) s = .next (s.answered n.port (.complete .stopped []))) ∧
    ((s.run n).state = .idle → s.stop = false → (s.fix n).state ≠ .contacted →
      exec (.openRun n.port) s = .next (s.answered n.port (.complete .wrongState []))) ∧
    ((s.run n).state = .idle → s.stop = false → (s.fix n).state = .contacted → ∃ t warn, exec (.openRun n.port) s = .next t ∧
      t.run n = {
        state := .active, serial := (s.run n).serial + 1#16, unit := quadOf (s.param n.port 0) (s.param n.port 1), plan := s.param n.port 2
        verdict := .none, endCause := .none, holdCount := 0, busErrors := 0, busLimit := (s.param n.port 3).toNat
        openTime := some s.clock, endTime := none, entries := [] } ∧
      (warn = 1#16 ∧ (∃ k : Fin 32, (s.fix n).lines[k].role ≠ .unused ∧ (s.fix n).lines[k].worn = true) ∨
        warn = 0#16 ∧ ∀ k : Fin 32, (s.fix n).lines[k].role ≠ .unused → (s.fix n).lines[k].worn = false) ∧
      t.port n.port = ((s.port n.port).taken (okWith [s.clock.extractLsb' 16 16, s.clock.extractLsb' 0 16, warn])).post
        ⟨n, .runState .active .opened⟩ ∧
      t.port n.other.port = s.port n.other.port ∧ t.fix n = s.fix n ∧ SameBeside s t n ∧ t.pru = s.pru ∧
      (∀ c : Fin 16, (t.chan c).sameRecord (s.chan c) ∧ ((s.chan c).owner = some n → t.output c = (s.chan c).live)) ∧
      (∀ c, GeneratorsAdopt s t c) ∧
      t.stu.pace = s.stu.pace.set n { s.stu.pace.get n with
        timer := if (s.stu.pace.get n).period = 0 then .stopped else .running (s.ms + (s.stu.pace.get n).period) } ∧
      t.mse = { s.mse with engine := t.mse.engine, queue := resumedQueue s.mse.queue n s.ms } ∧ EngineChose s t (fun _ => False) ∧
      t.bus n = { s.bus n with watches := resumedWatches (s.bus n).watches s.ms } ∧
      t.port .operator = (s.port .operator).readied s t.active ∧
      (s.works n = [] → t.bus n = s.bus n ∧ t.mse.queue = s.mse.queue ∧ t.port .operator = s.port .operator))

/-- HOLD RUN (R3), and what the other blocks do on the report (Table 1-5). -/
def Obligations.HoldRunResult : Prop :=
  ∀ (n : Nest) (s : State), s.Accepts n.port →
    ((s.run n).state ≠ .active → exec (.holdRun n.port) s = .next (s.answered n.port (.complete .wrongState []))) ∧
    ((s.run n).state = .active → ∃ t, exec (.holdRun n.port) s = .next t ∧
      t.run n = { s.run n with state := .held } ∧
      t.port n.port = ((s.port n.port).taken (okWith [])).post ⟨n, .runState .held .hostHold⟩ ∧
      t.port n.other.port = s.port n.other.port ∧ t.fix n = s.fix n ∧ SameBeside s t n ∧ HeldIn s t n ∧
      WithdrawnNotice s.pru (fun id => id.nest = n) n .held (s.port .operator) (t.port .operator))

/-- RESUME RUN (R5), and what the other blocks do on the report. A timer whose remaining time is 0 expires within the event (R76,
R126, R136): the pace timer gives its commit event and runs a full period, and the work a gate or a window belongs to ends, its results
ahead of RUN_STATE in the order of log 11. -/
def Obligations.ResumeRunResult : Prop :=
  ∀ (n : Nest) (s : State), s.Accepts n.port →
    ((s.run n).state ≠ .held ∨ (s.fix n).state ≠ .contacted →
      exec (.resumeRun n.port) s = .next (s.answered n.port (.complete .wrongState []))) ∧
    ((s.run n).state = .held → (s.fix n).state = .contacted → ∃ t, exec (.resumeRun n.port) s = .next t ∧
      t.fix n = s.fix n ∧ SameBeside s t n ∧ t.port n.other.port = s.port n.other.port ∧ t.pru = s.pru ∧
      (let u := ((s.setRun n { s.run n with state := .active }).answered n.port (okWith [])).results (s.spentWork n)
       t.run n = u.run n ∧ t.port n.port = (u.port n.port).post ⟨n, .runState .active .resumed⟩) ∧
      t.run n = { s.run n with state := .active, entries := (t.run n).entries } ∧
      t.mse = { s.mse with engine := t.mse.engine, queue := resumedQueue s.mse.queue n s.ms } ∧ EngineChose s t (fun _ => False) ∧
      t.bus n = { s.bus n with watches := resumedWatches (s.bus n).watches s.ms } ∧
      t.port .operator = (s.port .operator).readied s t.active ∧
      (let x := s.stu.pace.get n
       (x.timer = .paused 0 → t.stu.pace = s.stu.pace.set n { x with timer := .running (s.ms + x.period) }) ∧
       (x.timer ≠ .paused 0 → t.stu.pace = s.stu.pace.set n { x with timer := x.timer.resume s.ms }) ∧
       ∀ c : Fin 16, GeneratorsAdopt s t c ∧ ((s.chan c).owner = some n → t.output c = (t.chan c).live) ∧
         (t.chan c).sameRecord (if x.timer = .paused 0 ∧ (s.chan c).owner = some n ∧ (s.chan c).source = .pace then
           (s.chan c).commit (chanTop c) else s.chan c)) ∧
      (s.spentWork n = [] → t.run n = { s.run n with state := .active } ∧
        t.port n.port = ((s.port n.port).taken (okWith [])).post ⟨n, .runState .active .resumed⟩))

/-- END RUN (R7): the procedure of R6 with the verdict of R8. -/
def Obligations.EndRunResult : Prop :=
  ∀ (n : Nest) (s : State), s.Accepts n.port →
    ((s.run n).state.isOpen = false → exec (.endRun n.port) s = .next (s.answered n.port (.complete .wrongState []))) ∧
    ((s.run n).state.isOpen = true → ∃ t v, exec (.endRun n.port) s = .next t ∧
      (let fails := (∃ e ∈ (s.run n).entries, e.outcome = .fail) ∨ (s.run n).busLimit < (s.run n).busErrors
       let lacks := (∃ e ∈ (s.run n).entries, e.outcome = .pending ∨ e.outcome = .noResult) ∨ (s.run n).entries = []
       (fails → v = .fail) ∧ (¬ fails → lacks → v = .incomplete) ∧ (¬ fails → ¬ lacks → v = .pass)) ∧
      t.run n = (s.run n).closedBy .ended .hostEnd .ended v s.clock ∧
      t.port n.port = ((s.port n.port).taken (okWith [BitVec.ofNat 16 v.num])).post ⟨n, .runState .ended .hostEnd⟩ ∧
      GrantedAtClose s t n ∧ WithdrawnNotice s.pru (fun id => id.nest = n) n .ended (s.port .operator) (t.port .operator) ∧
      ClosedIn s t n s.pru ∧ t.fix n = s.fix n ∧ SameBeside s t n)

/-- ABORT RUN (R9), with all that the procedure of R6 does: the claims (R68, R70), the generators (R84, the moment of a period from rate 0
is log 17), the requests and the engine's choice (R138, R145), the prompts (R164). -/
def Obligations.AbortRunResult : Prop :=
  ∀ (n : Nest) (s : State), s.Accepts n.port →
    ((s.run n).state = .idle ∨ (s.run n).state = .ended ∨ (s.run n).state = .aborted →
      exec (.abortRun n.port) s = .next (s.answered n.port (.complete .wrongState []))) ∧
    ((s.run n).state = .active ∨ (s.run n).state = .held → ∃ t, exec (.abortRun n.port) s = .next t ∧
      t.run n = (s.run n).closedBy .aborted .hostAbort .aborted .aborted s.clock ∧
      t.port n.port = ((s.port n.port).taken (okWith [])).post ⟨n, .runState .aborted .hostAbort⟩ ∧
      GrantedAtClose s t n ∧ WithdrawnNotice s.pru (fun id => id.nest = n) n .aborted (s.port .operator) (t.port .operator) ∧
      ClosedIn s t n s.pru ∧ t.fix n = s.fix n ∧ SameBeside s t n)

/-- OPERATOR ABORT (R10): the named nest's run is aborted, and RUN_STATE goes to that nest's station port. -/
def Obligations.OperatorAbortResult : Prop :=
  ∀ s : State, s.Accepts .operator →
    (1 < (s.param .operator 0).toNat → exec (.operatorAbort .operator) s = .next (s.answered .operator (.complete .range []))) ∧
    ∀ n : Nest, (s.param .operator 0).toNat = (match n with
        | .a => 0
        | .b => 1) →
      ((s.run n).state.isOpen = false →
        exec (.operatorAbort .operator) s = .next (s.answered .operator (.complete .wrongState []))) ∧
      ((s.run n).state.isOpen = true → ∃ t, exec (.operatorAbort .operator) s = .next t ∧
        t.run n = (s.run n).closedBy .aborted .operator .aborted .aborted s.clock ∧
        t.port n.port = (s.port n.port).post ⟨n, .runState .aborted .operator⟩ ∧ GrantedAtClose s t n ∧
        WithdrawnNotice s.pru (fun id => id.nest = n) n .aborted ((s.port .operator).taken (okWith [])) (t.port .operator) ∧
        ClosedIn s t n s.pru ∧ t.fix n = s.fix n ∧ SameBeside s t n)

/-- RELEASE RUN (R12): the record is cleared, the run serial kept, and no other block does anything. That the port is then BUSY with the OK of
this step still to be taken is log 1; the layout its PARAM words take is log 7. -/
def Obligations.ReleaseRunResult : Prop :=
  ∀ (n : Nest) (s : State), s.Accepts n.port →
    ((s.run n).state = .idle ∨ (s.run n).state.isOpen = true →
      exec (.releaseRun n.port) s = .next (s.answered n.port (.complete .wrongState []))) ∧
    ((s.run n).state = .ended ∨ (s.run n).state = .aborted →
      exec (.releaseRun n.port) s = .next ((s.setRun n (Rnc.idle (s.run n).serial)).setPort n.port
        (((s.port n.port).taken (okWith [])).post ⟨n, .runState .idle .released⟩)))

/-- POST VERDICT (R22): a NOTE entry, checked by steps 1 and 2 of R17 first. -/
def Obligations.PostVerdictResult : Prop :=
  ∀ (n : Nest) (s : State), s.Accepts n.port →
    let r := s.run n
    let o := (s.param n.port 1).toNat
    let refused := fun c => exec (.postVerdict n.port) s =
      .next (s.answered n.port (.complete c []) (paramBits (.postVerdict n.port)))
    (r.state.isOpen = false → refused .wrongState) ∧
    (r.state.isOpen = true → 128 ≤ r.entries.length → refused .noSpace) ∧
    (r.state.isOpen = true → r.entries.length < 128 → o ≠ 1 → o ≠ 2 → refused .range) ∧
    (r.state.isOpen = true → r.entries.length < 128 → o = 1 ∨ o = 2 →
      exec (.postVerdict n.port) s = .next ((s.setRun n { r with entries := r.entries ++ [{
        kind := .note, tag := s.param n.port 0, outcome := if o = 1 then .pass else .fail, detail := .none, attempts := 1
        value := if (s.param n.port 2).getLsbD 0 then some (quadOf (s.param n.port 3) (s.param n.port 4)) else none
        limits := none, done := some s.clock }] }).setPort n.port
          ((s.port n.port).taken (okWith [BitVec.ofNat 16 (r.entries.length + 1)]) (paramBits (.postVerdict n.port)))))

/-- CANCEL ENTRY (R21), with what the owner of the work does (R127, R146 with the choice of R138, R164). -/
def Obligations.CancelEntryResult : Prop :=
  ∀ (n : Nest) (s : State), s.Accepts n.port →
    let r := s.run n
    let seq := (s.param n.port 0).toNat
    let id : WorkId := ⟨n, r.serial, seq⟩
    (r.state.isOpen = false → exec (.cancelEntry n.port) s = .next (s.answered n.port (.complete .wrongState []))) ∧
    (r.state.isOpen = true → seq = 0 ∨ r.entries.length < seq →
      exec (.cancelEntry n.port) s = .next (s.answered n.port (.complete .range []))) ∧
    ∀ e, r.state.isOpen = true → r.entry? seq = some e →
      (e.outcome ≠ .pending → exec (.cancelEntry n.port) s = .next (s.answered n.port (.complete .wrongState []))) ∧
      (e.outcome = .pending → ∃ t, exec (.cancelEntry n.port) s = .next t ∧
        (let e' : Entry := { e with outcome := .noResult, detail := .cancelled, value := none, done := some s.clock }
         t.run n = { r with entries := r.entries.set (seq - 1) e' }) ∧
        t.port n.port = (s.port n.port).taken (okWith []) ∧ t.port n.other.port = s.port n.other.port ∧ t.fix n = s.fix n ∧
        SameBeside s t n ∧ t.stu = s.stu ∧
        (e.kind = .measure ∨ e.kind = .calibration →
          t.mse = { s.mse with engine := t.mse.engine, queue := s.mse.queue.filter fun q => q.id != id } ∧
          (∀ off ph, t.mse.engine ≠ .working id off ph) ∧ EngineChose s t (· = id) ∧ t.pru = s.pru ∧ t.bus n = s.bus n ∧
          t.port .operator = s.port .operator) ∧
        (e.kind = .prompt →
          t.pru = { s.pru with queue := s.pru.queue.filter fun x => x.id != id } ∧ t.mse = s.mse ∧ t.bus n = s.bus n ∧
          WithdrawnNotice s.pru (fun x => x = id) n .cancelled (s.port .operator) (t.port .operator)) ∧
        (e.kind = .busExpect ∨ e.kind = .busForbid →
          t.bus n = { s.bus n with
            watches := (s.bus n).watches.map fun w => w.filter fun w => !(w.serial == r.serial && w.seq == seq) } ∧
          t.mse = s.mse ∧ t.pru = s.pru ∧ t.port .operator = s.port .operator))

/-- What the RNC does with a result and with a progress report (R19, R20): one for a PENDING entry of the current run is taken, any
other is discarded. -/
def Obligations.ResultsAndProgress : Prop :=
  ∀ (s : State) (id : WorkId) (x : WorkResult) (k : Nat),
    let r := s.run id.nest
    (∀ e, id.serial = r.serial → r.entry? id.seq = some e → e.outcome = .pending →
      let settled : Entry :=
        { e with outcome := x.outcome, detail := x.detail, attempts := x.attempts, value := x.value, done := some s.clock }
      s.result id x = (s.setRun id.nest { r with entries := r.entries.set (id.seq - 1) settled }).setPort id.nest.port
        ((s.port id.nest.port).post ⟨id.nest, .entryDone id.seq x.outcome⟩) ∧
      s.progress id k = s.setRun id.nest { r with entries := r.entries.set (id.seq - 1) { e with attempts := k } }) ∧
    (id.serial ≠ r.serial ∨ (∀ e, r.entry? id.seq = some e → e.outcome ≠ .pending) → s.result id x = s ∧ s.progress id k = s)

/-- READ RECORD (R24, Tables 10-5 and 10-6): the stream, word by word; it changes nothing. READ NEST STATUS (R25, with the word order
of log 9) at a station port and, for either nest, at the Operator Port. -/
def Obligations.RunReadsResult : Prop :=
  (∀ (n : Nest) (s : State), s.Accepts n.port → ∃ ws,
    let r := s.run n
    exec (.readRecord n.port) s = .next (s.answered n.port (.sendOut ws)) ∧ ws.length = 12 + 11 * r.entries.length ∧
    (let w := fun k => ws.getD k 0#16
     quadOf (w 0) (w 1) = r.unit ∧ w 2 = r.plan ∧ bitField (w 3) 0 3 = r.state.num ∧ bitField (w 3) 4 3 = r.verdict.num ∧
     bitField (w 3) 8 3 = r.endCause.num ∧ bitField (w 3) 12 3 = r.holdCount % 8 ∧ w 4 = BitVec.ofNat 16 r.busErrors ∧
     w 5 = BitVec.ofNat 16 r.busLimit ∧ quadOf (w 6) (w 7) = r.openTime.getD 0#32 ∧ quadOf (w 8) (w 9) = r.endTime.getD 0#32 ∧
     w 10 = BitVec.ofNat 16 r.entries.length ∧ flagBit (w 11) 0 = r.openTime.isSome ∧ flagBit (w 11) 1 = r.endTime.isSome) ∧
    ∀ i e, r.entries[i]? = some e →
      let w := fun k => ws.getD (12 + 11 * i + k) 0#16
      bitField (w 0) 0 8 = (i + 1) % 256 ∧ bitField (w 0) 8 3 = e.kind.num ∧ bitField (w 0) 12 2 = e.outcome.num ∧ w 1 = e.tag ∧
      bitField (w 2) 0 4 = e.detail.num ∧ bitField (w 2) 4 3 = e.attempts % 8 ∧ flagBit (w 2) 8 = e.value.isSome ∧
      flagBit (w 2) 9 = e.limits.isSome ∧ flagBit (w 2) 10 = e.done.isSome ∧ quadOf (w 3) (w 4) = e.value.getD 0#32 ∧
      quadOf (w 5) (w 6) = (e.limits.map (·.1)).getD 0#32 ∧ quadOf (w 7) (w 8) = (e.limits.map (·.2)).getD 0#32 ∧ quadOf (w 9) (w 10) = e.done.getD 0#32) ∧
  ∀ (p : Port) (n : Nest) (s : State), s.Accepts p →
    (p = n.port ∨ p = .operator ∧ (s.param p 0).toNat = (match n with
        | .a => 0
        | .b => 1) →
      exec (.readNestStatus p) s = .next (s.answered p (okWith [BitVec.ofNat 16 (s.run n).state.num,
        BitVec.ofNat 16 (s.fix n).state.num, BitVec.ofNat 16 (s.run n).holdCount, BitVec.ofNat 16 (s.run n).entries.length,
        BitVec.ofNat 16 ((s.run n).entries.countP fun e => e.outcome == .pending),
        if (s.pru.slots.get n).isSome then 1#16 else 0#16]))) ∧
    (p = .operator → 1 < (s.param p 0).toNat → exec (.readNestStatus p) s = .next (s.answered p (.complete .range [])))


/-! ## The fixture cycle (Chapter 2) -/

/-- CLAMP (R31): the checks in order; with CLOSED sensed already the fixture passes on to CLAMPED. SCAN (R33): the scan begins over
every used line whose path is not LOST, in ascending order, after 10 ms of settling (R53). -/
def Obligations.ClampAndScanResult : Prop :=
  ∀ (n : Nest) (s : State), s.Accepts n.port →
    let f := s.fix n
    (s.pru.slots.get n ≠ none → exec (.clamp n.port) s = .next (s.answered n.port (.complete .awaitOperator []))) ∧
    (s.pru.slots.get n = none → f.state ≠ .opened →
      exec (.clamp n.port) s = .next (s.answered n.port (.complete .wrongState []))) ∧
    (s.pru.slots.get n = none → f.state = .opened → s.stop = true →
      exec (.clamp n.port) s = .next (s.answered n.port (.complete .stopped []))) ∧
    (s.pru.slots.get n = none → f.state = .opened → s.stop = false → f.lid = false →
      exec (.clamp n.port) s = .next (s.answered n.port (.complete .wrongState []))) ∧
    (s.pru.slots.get n = none → f.state = .opened → s.stop = false → f.lid = true →
      (f.closed = true → exec (.clamp n.port) s = .next ((s.setFix n { f with state := .clamped, clampTimer := .stopped }).answeredNotice n
        (okWith []) (.fixtureState .clamped .clampStarted))) ∧
      (f.closed = false → exec (.clamp n.port) s =
        .next ((s.setFix n { f with state := .closing, clampTimer := .running (s.ms + f.clampTimeout) }).answeredNotice n
          (okWith []) (.fixtureState .closing .clampStarted)))) ∧
    (f.state ≠ .clamped ∨ f.pressure = false → exec (.scan n.port) s = .next (s.answered n.port (.complete .wrongState []))) ∧
    (f.state = .clamped → f.pressure = true → ∃ set : List (Fin 32),
      set.Pairwise (· < ·) ∧ (∀ k : Fin 32, k ∈ set ↔ f.lines[k].role ≠ .unused ∧ f.lines[k].path ≠ .lost) ∧
      exec (.scan n.port) s = .next ((s.setFix n { f with
        state := .scanning
        scan := some ⟨.settle, s.ms + 10, set, set, f.lines.map Line.path, f.lines.map Line.mark, f.spares, [], none, []⟩ }).answeredNotice n
          (okWith []) (.fixtureState .scanning .scanStarted)))

/-- UNCLAMP (R38 in CLAMPED and CONTACTED, R44 in FAULT). -/
def Obligations.UnclampResult : Prop :=
  ∀ (n : Nest) (s : State), s.Accepts n.port →
    let f := s.fix n
    let isOpen := (s.run n).state.isOpen
    (f.state = .clamped ∨ f.state = .contacted ∧ isOpen = false ∨ f.state = .fault ∧ f.permit = true →
      (f.home = true → exec (.unclamp n.port) s = .next ((s.setFix n { f with state := .opened, releaseTimer := .stopped }).answeredNotice n
        (okWith []) (.fixtureState .opened .unclamp))) ∧
      (f.home = false → exec (.unclamp n.port) s =
        .next ((s.setFix n { f with state := .releasing, releaseTimer := .running (s.ms + f.releaseTimeout) }).answeredNotice n
          (okWith []) (.fixtureState .releasing .unclamp)))) ∧
    (f.state = .fault → f.permit = false →
      exec (.unclamp n.port) s = .next (s.answered n.port (.complete .awaitOperator []))) ∧
    (f.state = .contacted ∧ isOpen = true ∨ f.state = .opened ∨ f.state = .closing ∨ f.state = .scanning ∨ f.state = .releasing →
      exec (.unclamp n.port) s = .next (s.answered n.port (.complete .wrongState [])))

/-- SET FIXTURE TIMING (R30) and SET WEAR LIMIT (R60), which posts a WEAR notice for each line whose worn flag becomes set, in
ascending order. -/
def Obligations.FixtureSettingsResult : Prop :=
  ∀ (n : Nest) (s : State), s.Accepts n.port →
    let f := s.fix n
    let c := (s.param n.port 0).toNat
    let r := (s.param n.port 1).toNat
    let v := (quadOf (s.param n.port 0) (s.param n.port 1)).toNat
    (c < 100 ∨ 5000 < c ∨ r < 100 ∨ 5000 < r →
      exec (.setFixtureTiming n.port) s = .next (s.answered n.port (.complete .range []))) ∧
    (100 ≤ c → c ≤ 5000 → 100 ≤ r → r ≤ 5000 → exec (.setFixtureTiming n.port) s =
      .next ((s.setFix n { f with clampTimeout := c, releaseTimeout := r }).answered n.port (okWith []))) ∧
    (v = 0 ∨ 16000000 < v → exec (.setWearLimit n.port) s = .next (s.answered n.port (.complete .range []))) ∧
    (1 ≤ v → v ≤ 16000000 → ∃ worn : List (Fin 32),
      worn.Pairwise (· < ·) ∧ (∀ k : Fin 32, k ∈ worn ↔ f.lines[k].worn = false ∧ v ≤ f.lines[k].count) ∧
      exec (.setWearLimit n.port) s = .next ((s.setFix n { f with
        wearLimit := v, lines := f.lines.map fun l => { l with worn := decide (v ≤ l.count) } }).setPort n.port
          (worn.foldl (fun w k => w.post ⟨n, .wear k⟩) ((s.port n.port).taken (okWith [])))))

/-- READ FIXTURE STATUS (R46, R28): the four words as Table 10-11 packs them, their reserved bits 0 (R179). That the port is then BUSY with the
answer of this step is log 1; the layout its PARAM words take is log 7. -/
def Obligations.ReadFixtureStatusResult : Prop :=
  ∀ (n : Nest) (s : State), s.Accepts n.port → ∃ w x,
    let f := s.fix n
    exec (.readFixtureStatus n.port) s =
      .next (s.answered n.port (okWith [w, BitVec.ofNat 16 f.clampTimeout, BitVec.ofNat 16 f.releaseTimeout, x])) ∧
    bitField w 0 3 = f.state.num ∧ bitField w 4 3 = f.cause.num ∧ flagBit w 7 = f.permit ∧ flagBit w 8 = f.lid ∧
    flagBit w 9 = f.home ∧ flagBit w 10 = f.closed ∧ flagBit w 11 = f.pressure ∧
    flagBit w 12 = decide (f.state = .closing ∨ f.state = .clamped ∨ f.state = .scanning ∨ f.state = .contacted) ∧
    flagBit w 13 = decide (f.state = .contacted) ∧ flagBit w 3 = false ∧ bitField w 14 2 = 0 ∧
    bitField x 0 3 = f.scanResult.num ∧ bitField x 3 5 = 0 ∧ bitField x 13 2 = 0 ∧ flagBit x 15 = f.firstFail.isSome ∧
    (f.firstFail = none → bitField x 8 5 = 0) ∧ ∀ k, f.firstFail = some k → bitField x 8 5 = k.val

/-- Table 2-3: the sense and line events that fault nothing (R29, R32, R39, R40). -/
def Obligations.SenseLevels : Prop :=
  ∀ (n : Nest) (s : State),
    let f := s.fix n
    exec (.lidClosed n) s = .next (s.setFix n { f with lid := true }) ∧
    exec (.homeLost n) s = .next (s.setFix n { f with home := false }) ∧
    exec (.pressureSensed n) s = .next (s.setFix n { f with pressure := true }) ∧
    exec .stopDeasserted s = .next { s with stop := false } ∧
    (f.state ≠ .releasing → exec (.homeSensed n) s = .next (s.setFix n { f with home := true })) ∧
    (f.state = .releasing → exec (.homeSensed n) s =
      .next ((s.setFix n { f with home := true, state := .opened, releaseTimer := .stopped }).setPort n.port
        ((s.port n.port).post ⟨n, .fixtureState .opened .homeSensed⟩))) ∧
    (f.state ≠ .closing → exec (.closedSensed n) s = .next (s.setFix n { f with closed := true })) ∧
    (f.state = .closing → exec (.closedSensed n) s =
      .next ((s.setFix n { f with closed := true, state := .clamped, clampTimer := .stopped }).setPort n.port
        ((s.port n.port).post ⟨n, .fixtureState .clamped .closedSensed⟩)))

/-- R40, R41: LID opened and CLOSED lost, by fixture state; R32, R39: the expiries of the clamp and release timers. An expiry of a timer
that does not run or is not due does nothing (log 3, log 12). The system prompt takes the nest's slot, which no reachable state still
holds then (log 23). -/
def Obligations.FaultEntry : Prop :=
  ∀ (n : Nest) (s : State),
    let f := s.fix n
    let lid := s.setFix n { f with lid := false }
    let closed := s.setFix n { f with closed := false }
    (f.state = .closing ∨ f.state = .clamped ∨ f.state = .scanning ∨ f.state = .contacted →
      ∃ t, exec (.lidOpened n) s = .next t ∧ FaultedIn lid t n .lidOpened) ∧
    (f.state = .opened ∨ f.state = .releasing ∨ f.state = .fault → exec (.lidOpened n) s = .next lid) ∧
    (f.state = .clamped ∨ f.state = .scanning ∨ f.state = .contacted →
      ∃ t, exec (.closedLost n) s = .next t ∧ FaultedIn closed t n .clampLost) ∧
    (f.state = .opened ∨ f.state = .closing ∨ f.state = .releasing ∨ f.state = .fault →
      exec (.closedLost n) s = .next closed) ∧
    (∀ e, f.state = .closing → f.clampTimer = .running e → e ≤ s.ms →
      ∃ t, exec (.clampTimerExpiry n) s = .next t ∧ FaultedIn s t n .clampTimeout) ∧
    (f.state ≠ .closing ∨ f.clampTimer = .stopped ∨ (∃ e, f.clampTimer = .running e ∧ s.ms < e) →
      exec (.clampTimerExpiry n) s = .next s) ∧
    (∀ e, f.state = .releasing → f.releaseTimer = .running e → e ≤ s.ms →
      ∃ t, exec (.releaseTimerExpiry n) s = .next t ∧ FaultedIn s t n .releaseTimeout) ∧
    (f.state ≠ .releasing ∨ f.releaseTimer = .stopped ∨ (∃ e, f.releaseTimer = .running e ∧ s.ms < e) →
      exec (.releaseTimerExpiry n) s = .next s)

/-- STOP ASSERTED (R40, R41): each nest takes it by its own fixture state. Which nest is first is free (log 10), and so is the value
of the model's counter of free choices. -/
def Obligations.StopFaults : Prop :=
  ∀ s : State, ∃ u : State, u = { s with stop := true, openChoices := u.openChoices } ∧
    let stops := fun n => (s.fix n).state = .closing ∨ (s.fix n).state = .clamped ∨ (s.fix n).state = .scanning ∨ (s.fix n).state = .contacted
    ((∀ n, ¬ stops n) → exec .stopAsserted s = .next u) ∧
    (∀ n, stops n → ¬ stops n.other → ∃ t, exec .stopAsserted s = .next t ∧ FaultedIn u t n .stop) ∧
    ((∀ n, stops n) → ∃ t mid first, exec .stopAsserted s = .next t ∧ FaultedIn u mid first .stop ∧ FaultedIn mid t first.other .stop)

/-- PRESSURE LOST (R37 with R4, R35). -/
def Obligations.PressureLostResult : Prop :=
  ∀ (n : Nest) (s : State),
    let f := s.fix n
    let r := s.run n
    let w := (s.port n.port).post ⟨n, .fixtureState .clamped .pressureLost⟩
    let g : Fxc := { f with pressure := false, state := .clamped }
    (f.state = .contacted → r.state.isOpen = false → exec (.pressureLost n) s = .next ((s.setFix n g).setPort n.port w)) ∧
    (f.state = .contacted → r.state = .held → r.holdCount < 3 → exec (.pressureLost n) s =
      .next (((s.setFix n g).setRun n { r with holdCount := r.holdCount + 1 }).setPort n.port w)) ∧
    (f.state = .contacted → r.state = .active → r.holdCount < 3 → ∃ t, exec (.pressureLost n) s = .next t ∧ t.fix n = g ∧
      t.run n = { r with holdCount := r.holdCount + 1, state := .held } ∧
      t.port n.port = w.post ⟨n, .runState .held .contactLoss⟩ ∧ t.port n.other.port = s.port n.other.port ∧
      WithdrawnNotice s.pru (fun id => id.nest = n) n .held (s.port .operator) (t.port .operator) ∧
      HeldIn s t n ∧ SameBeside s t n) ∧
    (f.state = .contacted → r.state.isOpen = true → 3 ≤ r.holdCount → ∃ t, exec (.pressureLost n) s = .next t ∧ t.fix n = g ∧
      (let r' : Rnc := { r with holdCount := 4 }
       t.run n = r'.closedBy .aborted .holdLimit .aborted .aborted s.clock) ∧
      t.port n.port = w.post ⟨n, .runState .aborted .holdLimit⟩ ∧ GrantedAtClose s t n ∧
      WithdrawnNotice s.pru (fun id => id.nest = n) n .aborted (s.port .operator) (t.port .operator) ∧
      ClosedIn s t n s.pru ∧ SameBeside s t n) ∧
    (f.state = .scanning → exec (.pressureLost n) s =
      .next ((s.setFix n { f with
        pressure := false, state := .clamped, scan := none
        scanResult := if f.scan.isSome then .abandoned else f.scanResult
        firstFail := if f.scan.isSome then none else f.firstFail }).setPort n.port
          ((s.port n.port).post ⟨n, .fixtureState .clamped .scanAbandoned⟩))) ∧
    (f.state ≠ .contacted → f.state ≠ .scanning → exec (.pressureLost n) s = .next (s.setFix n { f with pressure := false }))

/-! ## Probe lines, the scan and the fixture data (Chapter 3) -/

/-- WRITE PROBE LINE (R51) and READ PROBE LINE (R52, with the word order of log 9). -/
def Obligations.ProbeLineCommands : Prop :=
  ∀ (n : Nest) (s : State), s.Accepts n.port →
    let f := s.fix n
    let p := fun k => (s.param n.port k).toNat
    ((s.run n).state ≠ .idle ∨ f.state ≠ .opened →
      exec (.writeProbeLine n.port) s = .next (s.answered n.port (.complete .wrongState []))) ∧
    ((s.run n).state = .idle → f.state = .opened →
      32 ≤ p 0 ∨ (∀ r : Role, p 1 = r.num → r.exclusive = true ∧ p 2 ≠ r.arg) →
      exec (.writeProbeLine n.port) s = .next (s.answered n.port (.complete .range []))) ∧
    (∀ (k : Fin 32) (r : Role), (s.run n).state = .idle → f.state = .opened → p 0 = k.val → p 1 = r.num →
      (r.exclusive = true → p 2 = r.arg) →
      ((r.exclusive = true ∧ ∃ j : Fin 32, j ≠ k ∧ f.lines[j].role = r) →
        exec (.writeProbeLine n.port) s = .next (s.answered n.port (.complete .duplicate []))) ∧
      (¬ (r.exclusive = true ∧ ∃ j : Fin 32, j ≠ k ∧ f.lines[j].role = r) → exec (.writeProbeLine n.port) s =
        .next ((s.setFix n { f with
          lines := f.lines.set k { f.lines[k] with role := r, path := .primary, mark := false }
          spares := f.spares.map fun x => if x = some k then none else x }).answered n.port (okWith [])))) ∧
    (32 ≤ p 0 → exec (.readProbeLine n.port) s = .next (s.answered n.port (.complete .range []))) ∧
    ∀ k : Fin 32, p 0 = k.val → exec (.readProbeLine n.port) s = .next (s.answered n.port (okWith
      [BitVec.ofNat 16 f.lines[k].role.num, BitVec.ofNat 16 f.lines[k].role.arg, BitVec.ofNat 16 f.lines[k].path.num,
       BitVec.ofNat 16 f.lines[k].path.spareNum, if f.lines[k].mark then 1#16 else 0#16,
       (BitVec.ofNat 32 f.lines[k].count).extractLsb' 16 16, (BitVec.ofNat 32 f.lines[k].count).extractLsb' 0 16,
       if f.lines[k].worn then 1#16 else 0#16]))

/-- READ FIXTURE DATA (R61, Tables 3-3 and 10-7) for a map as R48 has it, and RESTORE FIXTURE DATA (R62) with what its 138th word
does (R63). The contact count is checked as a whole 32-bit quantity (log 19). -/
def Obligations.FixtureDataCommands : Prop :=
  (∀ (n : Nest) (s : State), s.Accepts n.port → (s.fix n).MapSound → ∃ ws,
    exec (.readFixtureData n.port) s = .next (s.answered n.port (.sendOut ws)) ∧ ws.length = 138 ∧
    (let g : FixtureData := ⟨(s.fix n).wearLimit, (s.fix n).lines, (s.fix n).spares⟩
     g.SpelledBy fun i => ws.getD i 0#16) ∧
    ∀ k : Fin 32, flagBit (ws.getD (5 + 4 * k.val) 0#16) 9 = (s.fix n).lines[k].worn) ∧
  (∀ (n : Nest) (s : State), s.Accepts n.port →
    ((s.run n).state ≠ .idle ∨ (s.fix n).state ≠ .opened →
      exec (.restoreFixtureData n.port) s = .next (s.answered n.port (.complete .wrongState []))) ∧
    ((s.run n).state = .idle → (s.fix n).state = .opened →
      exec (.restoreFixtureData n.port) s = .next (s.answered n.port (.takeIn (.fixtureData n) 138)))) ∧
  ∀ (p : Port) (n : Nest) (w : Word) (got : List Word) (s : State), (s.port p).spi = some ⟨true, 18⟩ →
    (s.port p).mode = .dataIn (.fixtureData n) 138 got → got.length = 137 →
    let d := fun i => (got ++ [w]).getD i 0#16
    let answer := fun (t : State) x => exec (.dataWrite p w) s = .next (t.setPort p { s.port p with mode := .busy x })
    ((∀ g : FixtureData, g.InRange → ¬ g.SpelledBy d) → answer s (.complete .range [])) ∧
    ∀ g : FixtureData, g.InRange → g.SpelledBy d →
      (¬ PoolSound (g.lines.map Line.path) g.spares → answer s (.complete .range [])) ∧
      (PoolSound (g.lines.map Line.path) g.spares → ¬ RolesDistinct g.lines → answer s (.complete .duplicate [])) ∧
      (PoolSound (g.lines.map Line.path) g.spares → RolesDistinct g.lines →
        answer (s.setFix n { s.fix n with lines := g.lines, spares := g.spares, wearLimit := g.limit }) (okWith []))

/-- R61 to R63: the 138 words READ FIXTURE DATA returns for a map restore exactly that map, in either nest. -/
def Obligations.FixtureDataRoundTrip : Prop :=
  ∀ (f : Fxc) (n : Nest) (s : State), f.MapSound →
    s.applyFixtureData n f.dataWords =
      (s.setFix n { s.fix n with lines := f.lines, spares := f.spares, wearLimit := f.wearLimit }, okWith [])

/-- SCAN TEST END (R53 to R55). A path passes below 10 ohms; the event gives its resistance in milliohms (log 14). Before its time, or with
no scan, nothing happens (log 3, log 12). R49: the relays of the primary and spare paths, in CONTACTED, during a scan, and elsewhere. -/
def Obligations.ScanTestEndResult : Prop :=
  (∀ f : Fxc,
    (f.state = .contacted →
      (∀ k : Fin 32, f.primaryRelay k = true ↔ f.lines[k].role ≠ .unused ∧ f.lines[k].path = .primary) ∧
      ∀ i : Fin 6, f.spareRelay i = true ↔ ∃ k : Fin 32, f.lines[k].role ≠ .unused ∧ f.lines[k].path = .spare i) ∧
    (∀ sc, f.state = .scanning → f.scan = some sc →
      (∀ k : Fin 32, f.primaryRelay k = true ↔ sc.target = .line k ∧ sc.paths[k] = .primary) ∧
      ∀ i : Fin 6, f.spareRelay i = true ↔
        ∃ k : Fin 32, sc.target = .spare k i ∨ sc.target = .line k ∧ sc.paths[k] = .spare i) ∧
    (f.state ≠ .contacted → f.state ≠ .scanning →
      (∀ k : Fin 32, f.primaryRelay k = false) ∧ ∀ i : Fin 6, f.spareRelay i = false)) ∧
  ∀ (n : Nest) (milliohm : Nat) (s : State),
    let f := s.fix n
    (f.scan = none → exec (.scanTestEnd n milliohm) s = .next s) ∧
    ∀ sc, f.scan = some sc →
      (s.ms < sc.due → exec (.scanTestEnd n milliohm) s = .next s) ∧
      (sc.due ≤ s.ms → sc.target = .finished → exec (.scanTestEnd n milliohm) s = .next s) ∧
      (sc.due ≤ s.ms → sc.target ≠ .finished → ∃ y, exec (.scanTestEnd n milliohm) s = .next (s.setFix n { f with scan := some y }) ∧
        (sc.target = .settle → sc.MovesOn y) ∧
        (∀ k, sc.target = .line k →
          let failed : Scan := { sc with firstFail := some (sc.firstFail.getD k) }
          let free := fun i : Fin 6 => sc.spares[i] = none ∧ i ∉ sc.failedSpares
          let critical := f.lines[k].role = .bus ∨ f.lines[k].role = .supply
          let lost : Scan := { failed with paths := sc.paths.set k .lost, marks := sc.marks.set k false }
          (milliohm < 10000 → Scan.MovesOn { sc with marks := sc.marks.set k false } y) ∧
          (10000 ≤ milliohm → sc.marks[k] = false → Scan.MovesOn { failed with marks := sc.marks.set k true } y) ∧
          (∀ i, 10000 ≤ milliohm → sc.marks[k] = true → sc.paths[k] = .spare i → Scan.MovesOn { lost with
            spares := sc.spares.set i none, failedSpares := sc.failedSpares ++ [i], lost := sc.lost ++ [(k, .sparePathFailed)] } y) ∧
          (∀ i, 10000 ≤ milliohm → sc.marks[k] = true → sc.paths[k] = .primary → free i → (∀ j < i, ¬ free j) →
            critical ∨ (∃ j, j ≠ i ∧ free j) →
            y = { failed with spares := sc.spares.set i (some k), target := .spare k i, due := sc.due + 12 }) ∧
          (10000 ≤ milliohm → sc.marks[k] = true → sc.paths[k] = .primary →
            (∀ i, ¬ free i) ∨ (¬ critical ∧ ∀ i j, free i → free j → i = j) →
            Scan.MovesOn { lost with lost := sc.lost ++ [(k, .noSpare)] } y)) ∧
        (∀ k i, sc.target = .spare k i →
          (milliohm < 10000 → Scan.MovesOn { sc with paths := sc.paths.set k (.spare i), marks := sc.marks.set k false } y) ∧
          (10000 ≤ milliohm → Scan.MovesOn { sc with
            spares := sc.spares.set i none, failedSpares := sc.failedSpares ++ [i], paths := sc.paths.set k .lost
            marks := sc.marks.set k false, lost := sc.lost ++ [(k, .spareFailed)] } y)))

/-- SCAN COMPLETION (R56 to R60, and R147, with the choice of R138, for the requests on lost sense lines). Before the end of the last test,
or with no scan, nothing happens (log 3, log 12). -/
def Obligations.ScanCompletionResult : Prop :=
  ∀ (n : Nest) (s : State),
    let f := s.fix n
    ((∀ sc, f.scan = some sc → sc.target ≠ .finished ∨ s.ms < sc.due) → exec (.scanCompletion n) s = .next s) ∧
    ∀ sc, f.scan = some sc → sc.target = .finished → sc.due ≤ s.ms → 
      ∃ t, ∃ lines : Vector Line 32, ∃ worn : List (Fin 32), exec (.scanCompletion n) s = .next t ∧
      (let view := fun k : Fin 32 => if k ∈ sc.tested then { f.lines[k] with path := sc.paths[k], mark := sc.marks[k] } else f.lines[k]
       let lostCritical := ∃ k, ((view k).role = .bus ∨ (view k).role = .supply) ∧ (view k).path = .lost
       let failed := ∃ k ∈ sc.tested, (view k).mark = true
       let passed := ¬ lostCritical ∧ ¬ failed
       let count := fun k => min 16777215 ((view k).count + 1)
       let rest : Fxc := { f with lines := lines, spares := sc.spares, firstFail := sc.firstFail, scan := none }
       (lostCritical → t.fix n = { rest with scanResult := .lostCritical, state := .clamped }) ∧
       (¬ lostCritical → failed → t.fix n = { rest with scanResult := .failed, state := .clamped }) ∧
       (passed → t.fix n = { rest with scanResult := .passed, state := .contacted }) ∧
       (∀ k : Fin 32, lines[k] = if passed ∧ (view k).role ≠ .unused then
         { view k with count := count k, worn := decide (f.wearLimit ≤ count k) } else view k) ∧
       worn.Pairwise (· < ·) ∧ (∀ k : Fin 32, k ∈ worn ↔ f.lines[k].worn = false ∧ lines[k].worn = true ∧ passed) ∧
       let hit := fun r : Request => ∃ x ∈ sc.lost, r.servedBy n f.lines[x.1].role
       t.mse.queue.Sublist s.mse.queue ∧ (∀ r, r ∈ t.mse.queue ↔ r ∈ s.mse.queue ∧ ¬ hit r) ∧
       t.mse = { s.mse with queue := t.mse.queue, engine := t.mse.engine } ∧
       (WorkMatchesRecord s → ∀ r ∈ s.mse.queue, hit r → ∀ off ph, t.mse.engine ≠ .working r.id off ph) ∧
       ((∃ x ∈ sc.lost, ∃ k, f.lines[x.1].role = .sense k) → EngineChose s t fun id => ∃ r ∈ s.mse.queue, hit r ∧ r.id = id) ∧
       ((∀ x ∈ sc.lost, ∀ k, f.lines[x.1].role ≠ .sense k) → t.mse.engine = s.mse.engine) ∧
       t.run n = { s.run n with entries := (t.run n).entries } ∧
       (WorkMatchesRecord s → ∀ seq e, (s.run n).entry? seq = some e →
         (∀ r ∈ s.mse.queue, hit r → r.id.seq = seq → (t.run n).entry? seq = some { e with
           outcome := .noResult, detail := .lineLost, attempts := r.attempts, value := none, done := some s.clock }) ∧
         ((∀ r ∈ s.mse.queue, hit r → r.id.seq ≠ seq) → (t.run n).entry? seq = some e)) ∧
       ((∀ r ∈ s.mse.queue, ¬ hit r) → t.run n = s.run n) ∧
       (WorkMatchesRecord s ∨ (∀ r ∈ s.mse.queue, ¬ hit r) →
         let rested := fun (st : FixtureState) (d : FixtureDetail) =>
           (lostNotices f n sc.lost s.mse.queue ++ worn.map NoticeBody.wear ++ [NoticeBody.fixtureState st d]).foldl
             (fun (w : PortWindow) b => w.post ⟨n, b⟩) (s.port n.port)
         (lostCritical → t.port n.port = rested .clamped .scanLostCritical) ∧
         (¬ lostCritical → failed → t.port n.port = rested .clamped .scanFailed) ∧
         (passed → t.port n.port = rested .contacted .scanPassed))) ∧
      t.stu = s.stu ∧ t.pru = s.pru ∧ t.bus n = s.bus n ∧ t.port .operator = s.port .operator ∧
      t.port n.other.port = s.port n.other.port ∧ SameBeside s t n

/-! ## Stimulus channels and trigger lines (Chapters 4 and 5) -/

/-- CLAIM CHANNELS (R67, Table 4-2) and RELEASE CHANNELS (R69, R68), with the masks they answer, the one CLAIM_GRANTED notice, and the
generators that follow the outputs (R84). The wait flag is bit 0 of its word (log 8), and the order of the masks is that in which the
rules name them (log 9). No channel is owned and awaited by one nest in a state as ClaimsSound has it (R66); there the three masks are
disjoint. -/
def Obligations.ClaimAndRelease : Prop :=
  ∀ (n : Nest) (s : State), s.Accepts n.port →
    let mask := s.param n.port 0
    let named := paramBits (.claimChannels n.port)
    ((s.run n).state.isOpen = false →
      exec (.claimChannels n.port) s = .next (s.answered n.port (.complete .wrongState []) named)) ∧
    ((s.run n).state.isOpen = true → ∃ t granted waiting refused, exec (.claimChannels n.port) s = .next t ∧
      ChannelsBecome s t (fun c ch =>
        if inMask mask c = true ∧ ch.owner = none then { ch with owner := some n }
        else if inMask mask c = true ∧ ch.owner = some n.other ∧ ch.waiter = none ∧ flagBit (s.param n.port 1) 0 = true then
          { ch with waiter := some n }
        else ch) ∧
      (∀ c, GeneratorsAdopt s t c) ∧ t.ports = (s.answered n.port (okWith [granted, waiting, refused]) named).ports ∧
      (MaskOf granted fun c => inMask mask c = true ∧ ((s.chan c).owner = none ∨ (s.chan c).owner = some n)) ∧
      (MaskOf waiting fun c => inMask mask c = true ∧ (t.chan c).waiter = some n) ∧
      (MaskOf refused fun c => inMask mask c = true ∧ inMask granted c = false ∧ inMask waiting c = false) ∧
      granted ||| waiting ||| refused = mask ∧ granted &&& refused = 0#16 ∧ waiting &&& refused = 0#16 ∧
      (ClaimsSound s → granted &&& waiting = 0#16)) ∧
    ∃ t released withdrawn given, exec (.releaseChannels n.port) s = .next t ∧
      ChannelsBecome s t (fun c ch => if inMask mask c = true then ch.closedFor n else ch) ∧
      (∀ c, GeneratorsAdopt s t c) ∧
      t.ports = ((s.answered n.port (okWith [released, withdrawn])).setPort n.other.port
        ((s.port n.other.port).granted n.other given)).ports ∧
      (MaskOf released fun c => inMask mask c = true ∧ (s.chan c).owner = some n) ∧
      (MaskOf withdrawn fun c => inMask mask c = true ∧ (s.chan c).owner ≠ some n ∧ (s.chan c).waiter = some n) ∧
      MaskOf given fun c => inMask mask c = true ∧ (s.chan c).owner = some n ∧ (s.chan c).waiter = some n.other

/-- The value ranges of Table 5-1, SET SAFE VALUE (R71), STAGE A, STAGE B and STAGE MANY (R86 to R89), and COMMIT (R90). -/
def Obligations.ChannelWrites : Prop :=
  (∀ c : Fin 16, chanTop c = if c.val < 8 then 20000 else if c.val < 14 then 50000 else 1) ∧
  (∀ (n : Nest) (s : State), s.Accepts n.port →
    let takes := fun c => inMask (s.param n.port 0) c = true ∧ (s.chan c).owner = some n ∧ (s.chan c).source = .soft
    (s.active n = false → exec (.commit n.port) s = .next (s.answered n.port (.complete .wrongState []))) ∧
    (s.active n = true → ∃ t touched, exec (.commit n.port) s = .next t ∧ MaskOf touched takes ∧
      ChannelsBecome s t (fun c ch => if inMask touched c = true then ch.commit (chanTop c) else ch) ∧
      (∀ c, GeneratorsAdopt s t c) ∧ t.ports = (s.answered n.port (okWith [touched])).ports)) ∧
  ∀ (n : Nest) (s : State), s.Accepts n.port →
    let x := (s.param n.port 0).toNat
    let v := (s.param n.port 1).toNat
    (16 ≤ x → ∀ i ∈ [Instr.setSafeValue n.port, .stageA n.port, .stageB n.port],
      exec i s = .next (s.answered n.port (.complete .range []))) ∧
    (∀ c : Fin 16, x = c.val →
      ((s.chan c).owner ≠ none → exec (.setSafeValue n.port) s = .next (s.answered n.port (.complete .wrongState []))) ∧
      ((s.chan c).owner = none → chanTop c < v →
        exec (.setSafeValue n.port) s = .next (s.answered n.port (.complete .range []))) ∧
      ((s.chan c).owner = none → v ≤ chanTop c → ∃ t, exec (.setSafeValue n.port) s = .next t ∧
        ChannelsBecome s t (fun d ch => if d = c then { ch with safe := v, stagedA := v, live := v } else ch) ∧
        (∀ d, GeneratorsAdopt s t d) ∧ t.ports = (s.answered n.port (okWith [])).ports) ∧
      ((s.chan c).owner ≠ some n → ∀ i ∈ [Instr.stageA n.port, .stageB n.port],
        exec i s = .next (s.answered n.port (.complete .notOwner []))) ∧
      ((s.chan c).owner = some n → chanTop c < v → ∀ i ∈ [Instr.stageA n.port, .stageB n.port],
        exec i s = .next (s.answered n.port (.complete .range []))) ∧
      ((s.chan c).owner = some n → v ≤ chanTop c →
        exec (.stageB n.port) s = .next ((s.setChan c { s.chan c with stagedB := v }).answered n.port (okWith [])) ∧
        ∃ t, exec (.stageA n.port) s = .next t ∧
          ChannelsBecome s t (fun d ch => if d = c then
            { ch with stagedA := v, live := if ch.mode = .direct then v else ch.live } else ch) ∧
          (∀ d, GeneratorsAdopt s t d) ∧ t.ports = (s.answered n.port (okWith [])).ports)) ∧
    (let mask := s.param n.port 0
     let applies := fun c => inMask mask c = true ∧ (s.chan c).owner = some n
     ((∃ c, applies c ∧ chanTop c < v) → exec (.stageMany n.port) s = .next (s.answered n.port (.complete .range []))) ∧
     ((∀ c, applies c → v ≤ chanTop c) → ∃ t applied, exec (.stageMany n.port) s = .next t ∧ MaskOf applied applies ∧
       ChannelsBecome s t (fun c ch => if inMask mask c = true ∧ ch.owner = some n then
         { ch with stagedA := v, live := if ch.mode = .direct then v else ch.live } else ch) ∧
       (∀ c, GeneratorsAdopt s t c) ∧ t.ports = (s.answered n.port (okWith [applied])).ports))

/-- CONFIGURE CHANNEL (R91, R92, checked first by R86); no output changes. -/
def Obligations.ConfigureChannelResult : Prop :=
  ∀ (n : Nest) (s : State), s.Accepts n.port →
    let p := fun k => (s.param n.port k).toNat
    (16 ≤ p 0 → exec (.configureChannel n.port) s = .next (s.answered n.port (.complete .range []))) ∧
    ∀ c : Fin 16, p 0 = c.val →
      ((s.chan c).owner ≠ some n → exec (.configureChannel n.port) s = .next (s.answered n.port (.complete .notOwner []))) ∧
      ((s.chan c).owner = some n →
        (3 < p 1 ∨ 2 < p 2 ∨ 3 < p 3 ∨ 3 < p 4 ∨ p 5 ∉ [4, 8, 16, 32, 64] ∨ 3 < p 6 ∨ p 1 = 3 ∧ 14 ≤ c.val →
          exec (.configureChannel n.port) s = .next (s.answered n.port (.complete .range []))) ∧
        ∀ (m : ChanMode) (source : CommitSource) (l : Fin 4) (e : EdgeSel), p 1 = m.num → p 2 = source.num → p 3 = l.val →
          p 4 = e.num → p 5 ∈ [4, 8, 16, 32, 64] → p 6 ≤ 3 → (m = .sweep → c.val < 14) →
          (let ch := s.chan c
           let set : Channel := { ch with
             mode := m, source := source, line := l, edge := e, sweepN := p 5, startQ := p 6
             phase := if m = .alternate ∧ ch.mode ≠ .alternate then .a else ch.phase }
           let restarts := m = .sweep ∧ ch.mode ≠ .sweep ∨ p 5 ≠ ch.sweepN ∨ p 6 ≠ ch.startQ
           (restarts → exec (.configureChannel n.port) s =
             .next ((s.setChan c { set with pos := p 6 * p 5 / 4, clamped := false }).answered n.port (okWith []))) ∧
           (¬ restarts → exec (.configureChannel n.port) s = .next ((s.setChan c set).answered n.port (okWith [])))))

/-- What a commit event does to a channel by its mode: in DIRECT nothing, since the live value moves with staged A instead (R95), in LATCHED
(R95), in ALTERNATE (R96; the first after its entry brings staged A), and in SWEEP (R97) with the profile of R98. A channel whose
owner's run is not ACTIVE takes none and keeps its record. -/
def Obligations.CommitEvents : Prop :=
  (∀ (x : Channel) (top v : Nat),
    (x.mode = .direct → x.commit top = x ∧ x.stageA v = { x with stagedA := v, live := v }) ∧
    (x.mode = .latched → x.commit top = { x with live := x.stagedA }) ∧
    (x.mode = .alternate → x.phase = .a → x.commit top = { x with live := x.stagedA, phase := .b }) ∧
    (x.mode = .alternate → x.phase = .b → x.commit top = { x with live := x.stagedB, phase := .a }) ∧
    (x.mode ≠ .alternate → ∀ y : ChannelConfig, y.mode = .alternate → ((x.configure y).commit top).live = x.stagedA) ∧
    (x.mode = .sweep → x.sweepN ∈ [4, 8, 16, 32, 64] → x.pos < x.sweepN → ∃ q : Int,
      let p := sweepProfile x.sweepN x.pos
      (0 ≤ p → 0 ≤ q) ∧ (p ≤ 0 → q ≤ 0) ∧ q.natAbs = x.stagedB * p.natAbs / (x.sweepN / 4) ∧ q.natAbs ≤ x.stagedB ∧
      (let moved : Channel := { x with pos := if x.pos + 1 = x.sweepN then 0 else x.pos + 1 }
       let sum := x.stagedA + q
       (0 ≤ sum → sum ≤ top → x.commit top = { moved with live := sum.toNat, clamped := false }) ∧
       (top < sum → x.commit top = { moved with live := top, clamped := true }) ∧
       (sum < 0 → x.commit top = { moved with live := 0, clamped := true })))) ∧
  (∀ N ∈ [4, 8, 16, 32, 64],
    (∀ n < N,
      (4 * n ≤ N → sweepProfile N n = n) ∧
      (N < 4 * n → 4 * n ≤ 3 * N → sweepProfile N n = ((N / 2 : Nat) : Int) - n) ∧
      (3 * N < 4 * n → sweepProfile N n = (n : Int) - N) ∧
      (sweepProfile N n).natAbs ≤ N / 4) ∧
    ((List.range N).map (sweepProfile N)).sum = 0 ∧ sweepProfile N (0 * N / 4) = 0 ∧ sweepProfile N (1 * N / 4) = (N / 4 : Nat) ∧
    sweepProfile N (2 * N / 4) = 0 ∧ sweepProfile N (3 * N / 4) = -((N / 4 : Nat) : Int)) ∧
  ∀ (s : State) (sel : Fin 16 → Channel → Bool) (c : Fin 16), (∀ n, (s.chan c).owner = some n → s.active n = false) →
    ((s.commitWhere sel).chan c).sameRecord (s.chan c)

/-- TIMEBASE TICK: the clock advances by one each millisecond and passes from 4294967295 to 0 (R177); the count behind it that does not
wrap is the model's (log 3). SET PACE (R78, Table 4-6), READ PACE (R79, with the word order of log 9), PACE EXPIRY (R77; one that is not due does nothing, log 3,
log 12), and PULSE PERIOD END (R84). An end is due within the
millisecond the clock shows (log 17). The stimulus pins: the output as each nest sees it (R82), where it reaches the cluster (R83, R49), and
the square wave of a generator at the whole milliseconds of a period that began at the moment m (R84). -/
def Obligations.ClockPaceAndPulse : Prop :=
  (∀ s : State, ∃ t, exec .timebaseTick s = .next t ∧ t.clock = s.clock + 1#32 ∧ t = { s with ms := t.ms }) ∧
  (∀ (n : Nest) (s : State), s.Accepts n.port →
    let period := (s.param n.port 0).toNat
    let sets := fun x => exec (.setPace n.port) s = .next ((s.setStu { s.stu with pace := s.stu.pace.set n ⟨period, x⟩ }).answered n.port (okWith []))
    (period = 0 ∨ (s.run n).state.isOpen = false → sets .stopped) ∧
    (period ≠ 0 → (s.run n).state = .active → sets (.running (s.ms + period))) ∧
    (period ≠ 0 → (s.run n).state = .held → sets (.paused period)) ∧
    (let x := s.stu.pace.get n
     let reads := fun (k left : Nat) => exec (.readPace n.port) s =
       .next (s.answered n.port (okWith [BitVec.ofNat 16 x.period, BitVec.ofNat 16 k, BitVec.ofNat 16 left]))
     (x.timer = .stopped → reads 0 0) ∧ (∀ e, x.timer = .running e → reads 1 (e - s.ms)) ∧
     ∀ left, x.timer = .paused left → reads 2 left)) ∧
  (∀ (n : Nest) (s : State),
    ((∀ e, (s.stu.pace.get n).timer = .running e → s.ms < e) → exec (.paceExpiry n) s = .next s) ∧
    ∀ e, (s.stu.pace.get n).timer = .running e → e ≤ s.ms → ∃ t, exec (.paceExpiry n) s = .next t ∧
      t = { s with stu := ⟨t.stu.chans, s.stu.pace.set n { s.stu.pace.get n with timer := .running (e + (s.stu.pace.get n).period) }⟩ } ∧
      (∀ c : Fin 16, (t.chan c).sameRecord
        (if (s.chan c).owner = some n ∧ (s.chan c).source = .pace ∧ s.active n = true then (s.chan c).commit (chanTop c)
         else s.chan c)) ∧
      ∀ c, GeneratorsAdopt s t c) ∧
  (∀ (n : Nest) (c : Fin 16) (s : State),
    let f := s.fix n
    ((s.chan c).owner = some n → s.seenBy n c = s.output c) ∧ ((s.chan c).owner ≠ some n → s.seenBy n c = (s.chan c).safe) ∧
    (s.reachesCluster n c = true ↔ (s.chan c).owner = some n ∧ f.state = .contacted ∧ ∃ k : Fin 32, f.lines[k].role = .stim c ∧
      (f.primaryRelay k = true ∨ ∃ i : Fin 6, f.lines[k].path = .spare i ∧ f.spareRelay i = true))) ∧
  (∀ (x : Channel) (m : Moment) (now : Nat),
    (x.rate = 0 → x.pinHigh now = false) ∧
    (0 < x.rate → 0 < m.den → 0 < x.periodEnd.den →
      x.periodEnd.num * (m.den * x.rate) = (m.num * x.rate + 10000 * m.den) * x.periodEnd.den →
      m.num ≤ now * m.den → now * x.periodEnd.den < x.periodEnd.num →
      (x.pinHigh now = true ↔ now * m.den * x.rate < m.num * x.rate + 5000 * m.den))) ∧
  ∀ (c : Fin 16) (s : State),
    let x := s.chan c
    (chanKind c ≠ .pulse ∨ x.rate = 0 ∨ (s.ms + 1) * x.periodEnd.den ≤ x.periodEnd.num →
      exec (.pulsePeriodEnd c) s = .next s) ∧
    (chanKind c = .pulse → 0 < x.rate → x.periodEnd.num < (s.ms + 1) * x.periodEnd.den →
      ∃ m : Moment, exec (.pulsePeriodEnd c) s = .next (s.setChan c { x with rate := s.output c, periodEnd := m }) ∧
        (0 < s.output c → 0 < x.periodEnd.den → 0 < m.den ∧
          m.num * (x.periodEnd.den * s.output c) = (x.periodEnd.num * s.output c + 10000 * x.periodEnd.den) * m.den))

/-- READ CLAIM TABLE (R72, with the word order of log 9) at every port. Its last clause says of the masks what ClaimsSound says of the
table. READ CHANNEL (R93, Table 10-11) at every port. -/
def Obligations.StimulusReads : Prop :=
  (∀ (p : Port) (s : State), s.Accepts p → ∃ ownerA ownerB waitA waitB,
    exec (.readClaimTable p) s = .next (s.answered p (okWith [ownerA, ownerB, waitA, waitB])) ∧
    (MaskOf ownerA fun c => (s.chan c).owner = some .a) ∧ (MaskOf ownerB fun c => (s.chan c).owner = some .b) ∧
    (MaskOf waitA fun c => (s.chan c).waiter = some .a) ∧ (MaskOf waitB fun c => (s.chan c).waiter = some .b) ∧
    ownerA &&& ownerB = 0#16 ∧ waitA &&& waitB = 0#16 ∧
    (ClaimsSound s → waitA &&& ownerB = waitA ∧ waitB &&& ownerA = waitB)) ∧
  ∀ (p : Port) (s : State), s.Accepts p →
    (16 ≤ (s.param p 0).toNat → exec (.readChannel p) s = .next (s.answered p (.complete .range []))) ∧
    ∀ c : Fin 16, (s.param p 0).toNat = c.val → ∃ w x,
      let ch := s.chan c
      exec (.readChannel p) s = .next (s.answered p (okWith [w, x, BitVec.ofNat 16 ch.safe, BitVec.ofNat 16 ch.stagedA,
        BitVec.ofNat 16 ch.stagedB, BitVec.ofNat 16 ch.live, BitVec.ofNat 16 (s.output c), BitVec.ofNat 16 ch.rate])) ∧
      bitField w 0 2 = ownerNum ch.owner ∧ bitField w 2 2 = ownerNum ch.waiter ∧ bitField w 4 2 = ch.mode.num ∧
      bitField w 6 2 = ch.source.num ∧ bitField w 8 2 = ch.line.val ∧ bitField w 10 2 = ch.edge.num ∧
      bitField w 12 1 = ch.phase.num ∧ flagBit w 13 = ch.clamped ∧ flagBit w 15 = false ∧
      (flagBit w 14 = true ↔ ∃ n, ch.owner = some n ∧ ∃ k : Fin 32, (s.fix n).lines[k].role = .stim c ∧ (s.fix n).lines[k].path ≠ .lost) ∧
      bitField x 0 7 = ch.sweepN % 128 ∧ flagBit x 7 = false ∧ bitField x 8 2 = ch.startQ % 4 ∧ bitField x 10 6 = ch.pos % 64 ∧
      s.output c = if (∃ n, ch.owner = some n ∧ s.active n = true) then ch.live else ch.safe

/-- SET TRIGGER FILTER and READ TRIGGER LINES (R74, with the word order of log 9), TRIGGER INPUT CHANGE and FILTER EXPIRY (R73), with
what the STU and the MSE do on the edge (R75, R94, R135, R138). An input change that repeats the level is taken as any other (log 13);
an expiry that is not due does nothing (log 3, log 12). -/
def Obligations.TriggerLineEvents : Prop :=
  (∀ (n : Nest) (s : State), s.Accepts n.port →
    let v := (s.param n.port 1).toNat
    (4 ≤ (s.param n.port 0).toNat ∨ 50 < v →
      exec (.setTriggerFilter n.port) s = .next (s.answered n.port (.complete .range []))) ∧
    ∀ l : Fin 4, (s.param n.port 0).toNat = l.val → v ≤ 50 → exec (.setTriggerFilter n.port) s =
      .next ((s.setTri (s.tri.set l { s.tri[l] with filter := v })).answered n.port (okWith []))) ∧
  (∀ (p : Port) (s : State), s.Accepts p →
    let level := fun l : Fin 4 => if s.tri[l].filtered = .high then 1#16 else 0#16
    let time := fun l : Fin 4 => BitVec.ofNat 16 s.tri[l].filter
    exec (.readTriggerLines p) s =
      .next (s.answered p (okWith [level 0, time 0, level 1, time 1, level 2, time 2, level 3, time 3]))) ∧
  ∀ (l : Fin 4) (s : State),
    let x := s.tri[l]
    let delivered := fun (level : Level) (t : State) =>
      let u := s.setTri (s.tri.set l { x with input := level, filtered := level, change := none })
      (level = .high → EdgeDelivered u t l .rising) ∧ (level = .low → EdgeDelivered u t l .falling) ∧
      (∀ c, GeneratorsAdopt u t c) ∧ { t with mse := { t.mse with engine := s.mse.engine } }.Chooses t.mse.engine
    (∀ level, level = x.filtered →
      exec (.triggerInputChange l level) s = .next (s.setTri (s.tri.set l { x with input := level, change := none }))) ∧
    (∀ level, level ≠ x.filtered → 0 < x.filter → exec (.triggerInputChange l level) s =
      .next (s.setTri (s.tri.set l { x with input := level, change := some (s.ms + x.filter) }))) ∧
    (∀ level, level ≠ x.filtered → x.filter = 0 → ∃ t, exec (.triggerInputChange l level) s = .next t ∧ delivered level t) ∧
    ((∀ e, x.change = some e → s.ms < e) → exec (.filterExpiry l) s = .next s) ∧
    ∀ e, x.change = some e → e ≤ s.ms → ∃ t, exec (.filterExpiry l) s = .next t ∧ delivered x.input t

/-! ## Cluster bus emulation (Chapter 6) -/

/-- SET LINK (R103, R104, R108), SET RESTART IDENTIFIER (R114), WRITE BROADCAST ENTRY and READ BROADCAST ENTRY (R107, R108, Table
10-8). The set-or-clear flag is bit 0 of its word (log 8); a frame at the pins when the link leaves ACTIVE is orphaned (log 21). -/
def Obligations.LinkAndBroadcastCommands : Prop :=
  ∀ (n : Nest) (s : State), s.Accepts n.port →
    let b := s.bus n
    let p := fun k => s.param n.port k
    let becomes := fun (i : Instr) (c : Beu) => exec i s = .next ((s.setBus n c).answered n.port (okWith []) (paramBits i))
    let stopped := fun x : Broadcast => { x with timer := .stopped }
    (2 < (p 0).toNat → exec (.setLink n.port) s = .next (s.answered n.port (.complete .range []))) ∧
    (∀ l : LinkState, (p 0).toNat = l.num →
      (l = b.link → exec (.setLink n.port) s = .next (s.answered n.port (okWith []))) ∧
      (l ≠ b.link → b.link = .active → becomes (.setLink n.port) { b with
        link := l, tx := if b.tx = .sending then .orphaned else b.tx, txq := [], sched := [], bcast := b.bcast.map stopped }) ∧
      (b.link ≠ .active → l = .active → becomes (.setLink n.port) { b with
        link := l, bcast := b.bcast.map fun x => { x with timer := if x.enabled then .running (s.ms + x.period) else .stopped } }) ∧
      (l ≠ b.link → b.link ≠ .active → l ≠ .active → becomes (.setLink n.port) { b with link := l })) ∧
    (flagBit (p 1) 0 = true → becomes (.setRestartIdentifier n.port) { b with restartId := none }) ∧
    (flagBit (p 1) 0 = false → 2047 < (p 0).toNat →
      exec (.setRestartIdentifier n.port) s =
        .next (s.answered n.port (.complete .range []) (paramBits (.setRestartIdentifier n.port)))) ∧
    (∀ id : BusId, flagBit (p 1) 0 = false → (p 0).toNat = id.toNat →
      becomes (.setRestartIdentifier n.port) { b with restartId := some id }) ∧
    (let len := bitField (p 1) 12 4
     let period := (p 6).toNat
     let hasLink := flagBit (p 0) 9
     let offset := bitField (p 7) 0 3
     let bad := 24 ≤ bitField (p 0) 0 5 ∨ 8 < len ∨ period < 10 ∨ 10000 < period ∨ hasLink = true ∧ (6 < offset ∨ len < offset + 2)
     (bad → exec (.writeBroadcastEntry n.port) s =
       .next (s.answered n.port (.complete .range []) (paramBits (.writeBroadcastEntry n.port)))) ∧
     ∀ k : Fin 24, bitField (p 0) 0 5 = k.val → ¬ bad → ∃ x : Broadcast,
       becomes (.writeBroadcastEntry n.port) { b with bcast := b.bcast.set k x } ∧
       x.id.toNat = bitField (p 1) 0 11 ∧ x.len = len ∧ x.period = period ∧ x.enabled = flagBit (p 0) 8 ∧
       (hasLink = false → x.linked = none) ∧
       (hasLink = true → ∃ c : Fin 16, c.val = bitField (p 7) 8 4 ∧ x.linked = some ⟨offset, c⟩) ∧
       wordOf x.bytes[0] x.bytes[1] = p 2 ∧ wordOf x.bytes[2] x.bytes[3] = p 3 ∧ wordOf x.bytes[4] x.bytes[5] = p 4 ∧
       wordOf x.bytes[6] x.bytes[7] = p 5 ∧
       x.timer = if x.enabled = true ∧ b.link = .active then .running (s.ms + period) else .stopped) ∧
    (24 ≤ (p 0).toNat → exec (.readBroadcastEntry n.port) s = .next (s.answered n.port (.complete .range []))) ∧
    ∀ k : Fin 24, (p 0).toNat = k.val → ∃ w v,
      let x := b.bcast[k]
      exec (.readBroadcastEntry n.port) s = .next (s.answered n.port (okWith [w, wordOf x.bytes[0] x.bytes[1],
        wordOf x.bytes[2] x.bytes[3], wordOf x.bytes[4] x.bytes[5], wordOf x.bytes[6] x.bytes[7], BitVec.ofNat 16 x.period, v,
        match x.timer with
        | .stopped => 0#16
        | .running e => BitVec.ofNat 16 (e - s.ms)])) ∧
      bitField w 0 11 = x.id.toNat ∧ flagBit w 11 = false ∧ bitField w 12 4 = x.len % 16 ∧ flagBit v 0 = x.enabled ∧
      flagBit v 1 = x.linked.isSome ∧ flagBit v 2 = decide (x.timer ≠ .stopped) ∧
      (x.linked = none → bitField v 4 3 = 0 ∧ bitField v 8 4 = 0) ∧
      ∀ y, x.linked = some y → bitField v 4 3 = y.offset % 8 ∧ bitField v 8 4 = y.chan.val

/-- WRITE REPLY ENTRY and what its 15th word does (R111), ARM REPLY (R112) and READ REPLY ENTRY (R113, Table 10-8). -/
def Obligations.ReplyEntryCommands : Prop :=
  (∀ (n : Nest) (s : State), s.Accepts n.port →
    let p := fun k => s.param n.port k
    (16 ≤ (p 0).toNat → ∀ i ∈ [Instr.writeReplyEntry n.port, .readReplyEntry n.port, .armReply n.port],
      exec i s = .next (s.answered n.port (.complete .range []) (paramBits i))) ∧
    (5 < bitField (p 1) 0 3 →
      exec (.armReply n.port) s = .next (s.answered n.port (.complete .range []) (paramBits (.armReply n.port)))) ∧
    ∀ k : Fin 16, (p 0).toNat = k.val →
      let r := (s.bus n).replies[k]
      let replaced := fun y => s.setBus n { s.bus n with replies := (s.bus n).replies.set k y }
      exec (.writeReplyEntry n.port) s = .next (s.answered n.port (.takeIn (.replyEntry n k) 15)) ∧
      (∀ x : Reservation, bitField (p 1) 0 3 = x.num → exec (.armReply n.port) s = .next ((replaced { r with
        reservation := x, oneShot := flagBit (p 1) 8 && decide (x ≠ .none)
        phase := if x = .alternate then .zero else r.phase }).answered n.port (okWith []) (paramBits (.armReply n.port)))) ∧
      ∃ ws,
        let named := paramBits (.readReplyEntry n.port)
        (flagBit (p 1) 0 = true → exec (.readReplyEntry n.port) s =
          .next ((replaced { r with matchCount := 0, replyCount := 0, dropCount := 0 }).answered n.port (.sendOut ws) named)) ∧
        (flagBit (p 1) 0 = false → exec (.readReplyEntry n.port) s = .next (s.answered n.port (.sendOut ws) named)) ∧
        ws.length = 19 ∧
        let w := fun k => ws.getD k 0#16
        (w 0).toNat = r.matchId.toNat ∧ bitField (w 1) 0 8 = (r.matchByte.getD 0#8).toNat ∧
        bitField (w 1) 8 8 = (if r.matchByte.isSome then 1 else 0) ∧ (w 2).toNat = r.replyId.toNat ∧
        w 3 = BitVec.ofNat 16 r.delay ∧ w 4 = BitVec.ofNat 16 r.defer ∧ w 5 = BitVec.ofNat 16 r.buf0.len ∧
        w 10 = BitVec.ofNat 16 r.buf1.len ∧
        (∀ j : Fin 4, w (6 + j.val) = wordOf (r.buf0.bytes[2 * j.val]'(by omega)) (r.buf0.bytes[2 * j.val + 1]'(by omega)) ∧
          w (11 + j.val) = wordOf (r.buf1.bytes[2 * j.val]'(by omega)) (r.buf1.bytes[2 * j.val + 1]'(by omega))) ∧
        bitField (w 15) 0 3 = r.reservation.num ∧ flagBit (w 15) 4 = r.oneShot ∧ flagBit (w 15) 8 = decide (r.phase = .one) ∧
        w 16 = BitVec.ofNat 16 r.matchCount ∧ w 17 = BitVec.ofNat 16 r.replyCount ∧ w 18 = BitVec.ofNat 16 r.dropCount) ∧
  ∀ (p : Port) (n : Nest) (k : Fin 16) (x : Word) (got : List Word) (s : State), (s.port p).spi = some ⟨true, 18⟩ →
    (s.port p).mode = .dataIn (.replyEntry n k) 15 got → got.length = 14 →
    let d := fun i => (got ++ [x]).getD i 0#16
    let ok := (d 0).toNat ≤ 2047 ∧ (d 2).toNat ≤ 2047 ∧ (d 3).toNat ≤ 255 ∧ 1 ≤ (d 4).toNat ∧ (d 4).toNat ≤ 5000 ∧
      (d 5).toNat ≤ 8 ∧ (d 10).toNat ≤ 8
    (¬ ok → exec (.dataWrite p x) s = .next (s.setPort p { s.port p with mode := .busy (.complete .range []) })) ∧
    (ok → ∃ y : Reply, exec (.dataWrite p x) s =
        .next ((s.setBus n { s.bus n with replies := (s.bus n).replies.set k y }).setPort p
          { s.port p with mode := .busy (okWith []) }) ∧
      (let r := (s.bus n).replies[k]
       y = { r with
         matchId := y.matchId, matchByte := y.matchByte, replyId := y.replyId, delay := y.delay, defer := y.defer
         buf0 := y.buf0, buf1 := y.buf1 }) ∧
      y.matchId.toNat = (d 0).toNat ∧ (flagBit (d 1) 8 = false → y.matchByte = none) ∧
      (flagBit (d 1) 8 = true → ∃ b, y.matchByte = some b ∧ b.toNat = bitField (d 1) 0 8) ∧ y.replyId.toNat = (d 2).toNat ∧
      y.delay = (d 3).toNat ∧ y.defer = (d 4).toNat ∧ y.buf0.len = (d 5).toNat ∧ y.buf1.len = (d 10).toNat ∧
      ∀ j : Fin 4, wordOf (y.buf0.bytes[2 * j.val]'(by omega)) (y.buf0.bytes[2 * j.val + 1]'(by omega)) = d (6 + j.val) ∧
        wordOf (y.buf1.bytes[2 * j.val]'(by omega)) (y.buf1.bytes[2 * j.val + 1]'(by omega)) = d (11 + j.val))

/-- ARM WATCH (R123 after steps 1 and 2 of R17), WINDOW EXPIRY (R125, Table 6-4; one that is not due does nothing, log 3, log 12) and READ
LINK STATUS (R128). -/
def Obligations.WatchesAndLinkStatus : Prop :=
  (∀ (n : Nest) (s : State), s.Accepts n.port →
    let b := s.bus n
    let r := s.run n
    let p := fun k => s.param n.port k
    let count := bitField (p 1) 12 2
    let window := (p 4).toNat
    let named := paramBits (.armWatch n.port)
    let refused := fun c => exec (.armWatch n.port) s = .next (s.answered n.port (.complete c []) named)
    let bad := count = 3 ∨ count = 2 ∧ bitField (p 2) 8 3 = bitField (p 3) 8 3 ∨ window = 0 ∨ 60000 < window
    (r.state.isOpen = false → refused .wrongState) ∧
    (r.state.isOpen = true → 128 ≤ r.entries.length → refused .noSpace) ∧
    (r.state.isOpen = true → r.entries.length < 128 → bad → refused .range) ∧
    (r.state.isOpen = true → r.entries.length < 128 → ¬ bad → (∀ i : Fin 8, b.watches[i] ≠ none) → refused .noSpace) ∧
    (∀ i : Fin 8, r.state.isOpen = true → r.entries.length < 128 → ¬ bad → b.watches[i] = none →
      (∀ j < i, b.watches[j] ≠ none) → ∃ x : Watch,
      exec (.armWatch n.port) s = .next (((s.setBus n { b with watches := b.watches.set i (some x) }).setRun n { r with
        entries := r.entries ++ [⟨if flagBit (p 1) 15 then .busForbid else .busExpect, p 0, .pending, .none, 1, none, none, none⟩]
        }).answered n.port (okWith [BitVec.ofNat 16 (r.entries.length + 1), BitVec.ofNat 16 i.val]) named) ∧
      x.kind = (if flagBit (p 1) 15 then .forbid else .expect) ∧ x.id.toNat = bitField (p 1) 0 11 ∧ x.serial = r.serial ∧
      x.seq = r.entries.length + 1 ∧
      x.window = (if r.state = .active then .running (s.ms + window) else .paused window) ∧
      x.bytes.length = count ∧
      (∀ m, x.bytes[0]? = some m → m.index = bitField (p 2) 8 3 ∧ m.value.toNat = bitField (p 2) 0 8) ∧
      ∀ m, x.bytes[1]? = some m → m.index = bitField (p 3) 8 3 ∧ m.value.toNat = bitField (p 3) 0 8) ∧
    ∃ w m : Word, exec (.readLinkStatus n.port) s = .next (s.answered n.port (okWith [BitVec.ofNat 16 b.link.num, w,
        BitVec.ofNat 16 b.txq.length, BitVec.ofNat 16 b.sched.length, m])) ∧
      bitField w 0 11 = (b.restartId.getD 0#11).toNat ∧ bitField w 11 4 = 0 ∧ flagBit w 15 = b.restartId.isSome ∧
      (∀ i : Fin 8, flagBit m i.val = b.watches[i].isSome) ∧ bitField m 8 8 = 0) ∧
  ∀ (n : Nest) (i : Fin 8) (s : State),
    ((∀ w e, (s.bus n).watches[i] = some w → w.window = .running e → s.ms < e) → exec (.windowExpiry n i) s = .next s) ∧
    ∀ w e, (s.bus n).watches[i] = some w → w.window = .running e → e ≤ s.ms → exec (.windowExpiry n i) s =
      .next ((s.setBus n { s.bus n with watches := (s.bus n).watches.set i none }).result ⟨n, w.serial, w.seq⟩
        ⟨if w.kind = .expect then .fail else .pass, .absent, 1, none⟩)

/-- BROADCAST TIMER EXPIRY (R108, R109), TRANSMIT START and TRANSMISSION END (R104 to R106), REPLY DUE (R119 to R121, Table 6-3). An event
that is not due, of an idle transmitter, or of a place beyond the list does nothing (log 3, log 12); the end of an orphaned frame counts
for no frame of the queue (log 21). -/
def Obligations.FramesSent : Prop :=
  (∀ (n : Nest) (k : Fin 24) (s : State),
    let b := s.bus n
    let x := b.bcast[k]
    ((∀ e, x.timer = .running e → s.ms < e) → exec (.broadcastTimerExpiry n k) s = .next s) ∧
    ∀ e, x.timer = .running e → e ≤ s.ms → ∃ f : Frame, f.id = x.id ∧
      f.data.length = min x.len 8 ∧
      (∀ i : Fin 8, i.val < x.len → x.linked = none → f.data[i.val]? = some x.bytes[i]) ∧
      (∀ y, x.linked = some y →
        let v := BitVec.ofNat 16 (if (s.chan y.chan).owner = some n then s.output y.chan else (s.chan y.chan).safe)
        ∀ i : Fin 8, i.val < x.len → f.data[i.val]? = some (if i.val = y.offset then v.extractLsb' 8 8
          else if i.val = y.offset + 1 then v.extractLsb' 0 8 else x.bytes[i])) ∧
      (let c : Beu := { b with bcast := b.bcast.set k { x with timer := .running (e + x.period) } }
       (b.txq.length < 8 → exec (.broadcastTimerExpiry n k) s =
         .next (s.setBus n { c with txq := b.txq ++ [⟨f, .broadcast k, 0⟩] })) ∧
       (8 ≤ b.txq.length → exec (.broadcastTimerExpiry n k) s = .next (s.setBus n c)))) ∧
  (∀ (n : Nest) (s : State),
    let b := s.bus n
    (b.link = .active → b.tx = .idle → b.txq ≠ [] → exec (.transmitStart n) s = .next (s.setBus n { b with tx := .sending })) ∧
    (b.link ≠ .active ∨ b.tx ≠ .idle ∨ b.txq = [] → exec (.transmitStart n) s = .next s) ∧
    ∀ o,
      (b.tx = .idle → exec (.transmissionEnd n o) s = .next s) ∧
      (b.tx = .orphaned ∨ b.tx = .sending ∧ (b.txq = [] ∨ o = .arbitrationLost) →
        exec (.transmissionEnd n o) s = .next (s.setBus n { b with tx := .idle })) ∧
      ∀ f rest, b.tx = .sending → b.txq = f :: rest →
        (∀ k, o = .acknowledged → f.source = .broadcast k →
          exec (.transmissionEnd n o) s = .next (s.setBus n { b with tx := .idle, txq := rest })) ∧
        (∀ k, o = .acknowledged → f.source = .reply k → exec (.transmissionEnd n o) s =
          .next (s.setBus n { b with
            tx := .idle, txq := rest
            replies := b.replies.set k { b.replies[k] with replyCount := min 65535 (b.replies[k].replyCount + 1) } })) ∧
        (o = .notAcknowledged → f.attempts + 1 < 8 → exec (.transmissionEnd n o) s =
          .next (s.setBus n { b with tx := .idle, txq := { f with attempts := f.attempts + 1 } :: rest })) ∧
        (o = .notAcknowledged → 8 ≤ f.attempts + 1 → exec (.transmissionEnd n o) s =
          .next ((s.setBus n { b with tx := .idle, txq := rest }).setPort n.port ((s.port n.port).post ⟨n, .txFailed f.source⟩)))) ∧
  ∀ (n : Nest) (k : Nat) (s : State),
    let b := s.bus n
    ((∀ x, b.sched[k]? = some x → s.ms < x.due) → exec (.replyDue n k) s = .next s) ∧
    ∀ x, b.sched[k]? = some x → x.due ≤ s.ms →
      let r := b.replies[x.entry]
      let full := 8 ≤ b.txq.length
      let buf : ReplyBuffer := match x.form with
        | .buffer0 | .deferSecond => r.buf0
        | .buffer1 | .deferFirst => r.buf1
        | .alternate => if r.phase = BufferSel.zero then r.buf0 else r.buf1
      exec (.replyDue n k) s = .next (s.setBus n { b with
        sched := b.sched.eraseIdx k ++ (if x.form = .deferFirst then [⟨x.entry, .deferSecond, x.due + r.defer⟩] else [])
        txq := if full then b.txq else b.txq ++ [⟨⟨r.replyId, buf.bytes.toList.take buf.len⟩, .reply x.entry, 0⟩]
        replies := b.replies.set x.entry { r with
          phase := if x.form = .alternate then (if r.phase = BufferSel.zero then BufferSel.one else BufferSel.zero) else r.phase
          dropCount := if full then min 65535 (r.dropCount + 1) else r.dropCount } })

/-- FRAME ARRIVAL: in OFF nothing is taken (R102); an errored frame is counted by the RNC while the run is open (R122, R23), and one
of more than 8 bytes counts as errored (log 22); a GOOD one is taken by the steps of R115: the restart check (R117), in ACTIVE the
reply match (R118, R119), the watch match (R124), and a reply with a delay of 0, which falls due as at REPLY DUE. The link acknowledges a
frame in ACTIVE alone, and only a GOOD one (R102). -/
def Obligations.FrameArrivalResult : Prop :=
  (∀ (l : LinkState) (rx : RxResult), l.acknowledges rx = true ↔ l = .active ∧ rx = .good) ∧
  ∀ (n : Nest) (rx : RxResult) (f : Frame) (s : State),
    let b := s.bus n
    let r := s.run n
    let event := Instr.frameArrival n rx f
    (b.link = .off → exec event s = .next s) ∧
    (b.link ≠ .off → rx ≠ .good ∨ 8 < f.data.length →
      (r.state.isOpen = true → exec event s = .next (s.setRun n { r with busErrors := min 65535 (r.busErrors + 1) })) ∧
      (r.state.isOpen = false → exec event s = .next s)) ∧
    (b.link ≠ .off → rx = .good → f.data.length ≤ 8 →
      let restart := b.restartId = some f.id
      let restarted := fun x : Reply => { x with
        reservation := if x.oneShot = true ∧ x.reservation ≠ .none then .none else x.reservation
        oneShot := if x.reservation ≠ .none then false else x.oneShot, phase := .zero }
      let replies := if restart then b.replies.map restarted else b.replies
      let sched := if restart then [] else b.sched
      let hits := fun w : Watch => w.id = f.id ∧ ∀ m ∈ w.bytes, f.data[m.index]? = some m.value
      let value : Quad := f.data.getD 0 0#8 ++ f.data.getD 1 0#8 ++ f.data.getD 2 0#8 ++ f.data.getD 3 0#8
      let seen := fun w : Watch => ((⟨n, w.serial, w.seq⟩ : WorkId),
        (⟨if w.kind = .expect then .pass else .fail, .seen, 1, some value⟩ : WorkResult))
      ∃ (gone : List Watch) (watches : Vector (Option Watch) 8),
        gone = (if s.active n then (b.watches.toList.filterMap fun w => w.filter fun w => decide (hits w)) else []) ∧
        watches = (if s.active n then (b.watches.map fun w => w.filter fun w => decide (¬ hits w)) else b.watches) ∧
        let noticed := if restart then s.setPort n.port ((s.port n.port).post ⟨n, .restartSeen f.id⟩) else s
        let settled := noticed.results (gone.map seen)
        let matches_ := fun k : Fin 16 => replies[k].reservation ≠ .none ∧ replies[k].matchId = f.id ∧
          ∀ x, replies[k].matchByte = some x → f.data[0]? = some x
        (b.link = .listen ∨ (∀ k, ¬ matches_ k) →
          exec event s = .next (settled.setBus n { b with replies := replies, sched := sched, watches := watches })) ∧
        ∀ k, b.link = .active → matches_ k → (∀ j < k, ¬ matches_ j) →
          let x := replies[k]
          let counted : Reply := { x with matchCount := min 65535 (x.matchCount + 1) }
          let after := fun y : Reply => if y.oneShot then { y with reservation := .none, oneShot := false } else y
          let ends := fun y list => settled.setBus n { b with replies := replies.set k (after y), sched := list, watches := watches }
          (x.reservation = .silent → exec event s = .next (ends counted sched)) ∧
          (x.reservation ≠ .silent → 8 ≤ sched.length →
            exec event s = .next (ends { counted with dropCount := min 65535 (x.dropCount + 1) } sched)) ∧
          ∀ form, sched.length < 8 →
            x.reservation = .buffer0 ∧ form = .buffer0 ∨ x.reservation = .buffer1 ∧ form = .buffer1 ∨
              x.reservation = .alternate ∧ form = .alternate ∨ x.reservation = .defer ∧ form = .deferFirst →
            let u := ends counted (sched ++ [⟨k, form, s.ms + x.delay⟩])
            (x.delay ≠ 0 → exec event s = .next u) ∧ (x.delay = 0 → exec event s = exec (.replyDue n sched.length) u))

/-! ## The measurement engine (Chapter 7) -/

/-- REQUEST MEASUREMENT (R131, R132 after steps 1 and 2 of R17, with the engine's choice of R138), CALIBRATE OFFSET (R134), SET GATE
TIMEOUT (R137) and READ MEASUREMENT STATUS (R148, Table 10-11). -/
def Obligations.MeasurementCommands : Prop :=
  (∀ (n : Nest) (s : State), s.Accepts n.port →
    let r := s.run n
    let m := s.mse
    let f := s.fix n
    let p := fun k => s.param n.port k
    let refused := fun (i : Instr) c => exec i s = .next (s.answered n.port (.complete c []) (paramBits i))
    let full := 16 ≤ m.queue.length ∨ 10 ≤ m.queue.countP fun x => x.id.nest == n
    let joins := fun (i : Instr) (kind : EntryKind) (limits : Option (Quad × Quad)) (q : Request) => ∃ t, exec i s = .next t ∧
      t = ((s.setRun n { r with entries := r.entries ++ [⟨kind, p 0, .pending, .none, 1, none, limits, none⟩] }).setMse
        { m with queue := m.queue ++ [q], engine := t.mse.engine }).answered n.port (okWith [BitVec.ofNat 16 (r.entries.length + 1)]) (paramBits i) ∧
      { t with mse := { t.mse with engine := m.engine } }.Chooses t.mse.engine
    let fresh := fun q : Request => q.id = ⟨n, r.serial, r.entries.length + 1⟩ ∧ q.attempts = 1 ∧ q.seen = false
    let level := bitField (p 1) 4 3
    let bad := 4 < level ∨ 11 < bitField (p 1) 0 4 ∨ 1000 < (p 2).toNat ∨
      (level ≤ 1 ∧ ((p 3).toNat = 0 ∨ 64 < (p 3).toNat)) ∨ (2 ≤ level ∧ ((p 3).toNat < 10 ∨ 10000 < (p 3).toNat)) ∨
      (quadOf (p 6) (p 7)).toInt < (quadOf (p 4) (p 5)).toInt ∨ flagBit (p 1) 15 = true ∧ level ≠ 0
    let badZero := 1000 < (p 1).toNat ∨ (p 2).toNat = 0 ∨ 64 < (p 2).toNat
    (∀ i ∈ [Instr.requestMeasurement n.port, .calibrateOffset n.port],
      (r.state.isOpen = false → refused i .wrongState) ∧
      (r.state.isOpen = true → 128 ≤ r.entries.length → refused i .noSpace)) ∧
    (r.state.isOpen = true → r.entries.length < 128 → bad → refused (.requestMeasurement n.port) .range) ∧
    (r.state.isOpen = true → r.entries.length < 128 → ¬ bad → full → refused (.requestMeasurement n.port) .noSpace) ∧
    (∀ input : Fin 12, r.state.isOpen = true → r.entries.length < 128 → ¬ bad → ¬ full → input.val = bitField (p 1) 0 4 →
      (level ≠ 1 → (∀ k : Fin 32, f.lines[k].role ≠ .sense input) → refused (.requestMeasurement n.port) .notRouted) ∧
      (level ≠ 1 → (∃ k : Fin 32, f.lines[k].role = .sense input) →
        (∀ k : Fin 32, f.lines[k].role = .sense input → f.lines[k].path = .lost) → refused (.requestMeasurement n.port) .lineLost) ∧
      (level = 1 ∨ (∃ k : Fin 32, f.lines[k].role = .sense input) ∧
          (∀ k : Fin 32, f.lines[k].role = .sense input → f.lines[k].path ≠ .lost) →
        ∃ q : Request, joins (.requestMeasurement n.port) .measure (some (quadOf (p 4) (p 5), quadOf (p 6) (p 7))) q ∧ fresh q ∧
          [MeasureKind.level, .current, .duty, .freq, .count][level]? = some q.kind ∧ q.input = input ∧
          q.retries = bitField (p 1) 8 2 ∧ q.gateLine.val = bitField (p 1) 10 2 ∧ q.gateEdge.num = bitField (p 1) 12 2 ∧
          q.corrected = flagBit (p 1) 15 ∧ q.settle = (p 2).toNat ∧ q.amount = (p 3).toNat ∧ q.low = quadOf (p 4) (p 5) ∧
          q.high = quadOf (p 6) (p 7) ∧
          q.gate = if q.gateEdge = .none then .stopped else if r.state = .active then .running (s.ms + m.gateTimeout.get n)
            else .paused (m.gateTimeout.get n))) ∧
    (r.state.isOpen = true → r.entries.length < 128 → badZero → refused (.calibrateOffset n.port) .range) ∧
    (r.state.isOpen = true → r.entries.length < 128 → ¬ badZero → full → refused (.calibrateOffset n.port) .noSpace) ∧
    (r.state.isOpen = true → r.entries.length < 128 → ¬ badZero → ¬ full →
      ∃ q : Request, joins (.calibrateOffset n.port) .calibration none q ∧ fresh q ∧ q.kind = .zero ∧ q.retries = 0 ∧
        q.gateEdge = .none ∧ q.gate = .stopped ∧ q.corrected = false ∧ q.settle = (p 1).toNat ∧ q.amount = (p 2).toNat) ∧
    ((p 0).toNat = 0 ∨ 60000 < (p 0).toNat → refused (.setGateTimeout n.port) .range) ∧
    ((p 0).toNat ≠ 0 → (p 0).toNat ≤ 60000 → exec (.setGateTimeout n.port) s =
      .next ((s.setMse { m with gateTimeout := m.gateTimeout.set n (p 0).toNat }).answered n.port (okWith [])))) ∧
  ∀ (p : Port) (n : Nest) (s : State), s.Accepts p →
    (p = .operator → 1 < (s.param p 0).toNat →
      exec (.readMeasurementStatus p) s = .next (s.answered p (.complete .range []))) ∧
    (p = n.port ∨ p = .operator ∧ (s.param p 0).toNat = (match n with
        | .a => 0
        | .b => 1) → ∃ w x,
      let m := s.mse
      let offset := BitVec.ofInt 32 (m.offset.get n)
      exec (.readMeasurementStatus p) s = .next (s.answered p (okWith [w, x, offset.extractLsb' 16 16, offset.extractLsb' 0 16,
        BitVec.ofNat 16 (m.gateTimeout.get n),
        BitVec.ofNat 16 (m.queue.countP fun r => r.id.nest == n && r.gateEdge != .none && !r.seen)])) ∧
      (m.engine = .idle → w = 0#16) ∧
      (∀ id off ph, m.engine = .working id off ph → flagBit w 2 = decide (id.nest = .b) ∧ bitField w 3 5 = 0 ∧
        bitField w 8 8 = id.seq % 256 ∧ bitField w 0 2 = match ph with
          | .settling _ => 1
          | .measuring _ _ _ => 2) ∧
      bitField x 0 5 = m.queue.length % 32 ∧ bitField x 8 4 = (m.queue.countP fun r => r.id.nest == .a) % 16 ∧
      bitField x 12 4 = (m.queue.countP fun r => r.id.nest == .b) % 16)

/-- GATE TIMER EXPIRY (R136), SETTLE END (R139), MEASUREMENT SAMPLE (R140), SENSE INPUT CROSSING (R141), and what the input switch is
connected to (R133, R139). Where a request is named, no other of the queue has its entry, which WorkMatchesRecord gives. An event that is
not due, or with no phase for it, does nothing (log 3, log 12). The reading of a LEVEL sample is also the input's voltage (log 15). The
microsecond clock and an edge at the window's end are log 16. -/
def Obligations.EngineEvents : Prop :=
  (∀ (n : Nest) (seq : Nat) (s : State),
    ((∀ r ∈ s.mse.queue, r.id.nest = n → r.id.seq = seq → ∀ e, r.gate = .running e → s.ms < e) →
      exec (.gateTimerExpiry n seq) s = .next s) ∧
    ∀ r e, r ∈ s.mse.queue → r.id.nest = n → r.id.seq = seq → (∀ x ∈ s.mse.queue, x.id.nest = n → x.id.seq = seq → x = r) →
      r.gate = .running e → e ≤ s.ms → exec (.gateTimerExpiry n seq) s =
        .next ((s.setMse { s.mse with queue := s.mse.queue.filter fun x => x.id != r.id }).result r.id
          ⟨.noResult, .gateTimeout, r.attempts, none⟩)) ∧
  ∀ (s : State),
    let sets := fun (t : State) (e : Engine) => t.setMse { t.mse with engine := e }
    let sole := fun r : Request => r ∈ s.mse.queue ∧ ∀ x ∈ s.mse.queue, x.id = r.id → x = r
    let voltage := fun (n : Nest) (k : Fin 12) mv => s.setMse { s.mse with inputs := s.mse.inputs.set n ((s.mse.inputs.get n).set k mv) }
    (s.mse.engine = .idle → s.switchInput? = none) ∧
    (∀ r off ph, sole r → s.mse.engine = .working r.id off ph →
      (r.kind = .level ∨ r.kind = .duty ∨ r.kind = .freq ∨ r.kind = .count → s.switchInput? = some (.sense r.id.nest r.input)) ∧
      (r.kind = .current → s.switchInput? = some (.supplyCurrent r.id.nest)) ∧
      (r.kind = .zero → s.switchInput? = some (.zeroReference r.id.nest))) ∧
    ((∀ id off e, s.mse.engine = .working id off (.settling e) → s.ms < e) → exec .settleEnd s = .next s) ∧
    (∀ r off e, sole r → s.mse.engine = .working r.id off (.settling e) → e ≤ s.ms →
      (r.kind = .level ∨ r.kind = .current ∨ r.kind = .zero →
        exec .settleEnd s = .next (sets s (.working r.id off (.measuring e (e + r.amount) (.samples 0 0))))) ∧
      (r.kind = .duty ∨ r.kind = .freq ∨ r.kind = .count → exec .settleEnd s = .next (sets s (.working r.id off
        (.measuring e (e + r.amount) (.window (decide (2500 < (s.mse.inputs.get r.id.nest)[r.input])) 0 0 (e * 1000))))))) ∧
    (∀ reading, (∀ id off b e sum taken, s.mse.engine ≠ .working id off (.measuring b e (.samples sum taken))) →
      exec (.measurementSample reading) s = .next s) ∧
    (∀ reading r off b e sum taken, sole r → s.mse.engine = .working r.id off (.measuring b e (.samples sum taken)) →
      (r.amount ≤ taken ∨ s.ms < b + taken + 1 → exec (.measurementSample reading) s = .next s) ∧
      (taken < r.amount → b + taken + 1 ≤ s.ms →
        let next := fun t sample => exec (.measurementSample reading) s =
          .next (sets t (.working r.id off (.measuring b e (.samples (sum + sample) (taken + 1)))))
        (r.kind = .level → next (voltage r.id.nest r.input reading) (max (-30000) (min 30000 reading))) ∧
        (r.kind = .zero → next s (max (-30000) (min 30000 reading))) ∧
        (r.kind = .current → next s (max 0 (min 10000 reading))))) ∧
    ∀ (n : Nest) (k : Fin 12) (mv : Int) (us : Nat),
      ((∀ id off b e high edges highUs since, s.mse.engine ≠ .working id off (.measuring b e (.window high edges highUs since))) →
        exec (.senseInputCrossing n k mv us) s = .next (voltage n k mv)) ∧
      ∀ r off b e high edges highUs since, sole r →
        s.mse.engine = .working r.id off (.measuring b e (.window high edges highUs since)) →
        let moment := s.ms * 1000 + us
        (r.id.nest ≠ n ∨ r.input ≠ k ∨ e * 1000 < moment → exec (.senseInputCrossing n k mv us) s = .next (voltage n k mv)) ∧
        (r.id.nest = n → r.input = k → moment ≤ e * 1000 →
          let next := fun g => exec (.senseInputCrossing n k mv us) s =
            .next (sets (voltage n k mv) (.working r.id off (.measuring b e g)))
          (moment ≤ b * 1000 → next (.window (decide (2500 < mv)) edges highUs (b * 1000))) ∧
          (b * 1000 < moment →
            (high = false → 2500 < mv → next (.window true (edges + 1) highUs moment)) ∧
            (high = true → mv < 1500 → next (.window false edges (highUs + (moment - since)) since)) ∧
            (high = false → mv ≤ 2500 → next (.window false edges highUs since)) ∧
            (high = true → 1500 ≤ mv → next (.window true edges highUs since))))

/-- MEASUREMENT COMPLETION and CALIBRATION COMPLETION: the measured value (R140, R141), the comparison, the result or another attempt
(R142), the offset (R143), and the engine's choice (R138). Before the end of the phase nothing happens (log 3, log 12); the time high is
in microseconds (log 16). -/
def Obligations.Completions : Prop :=
  ∀ (s : State),
    ((∀ id off b e g, s.mse.engine = .working id off (.measuring b e g) → s.ms < e) →
      exec .measurementCompletion s = .next s ∧ exec .calibrationCompletion s = .next s) ∧
    ∀ r off b e g, r ∈ s.mse.queue → (∀ x ∈ s.mse.queue, x.id = r.id → x = r) →
      s.mse.engine = .working r.id off (.measuring b e g) → e ≤ s.ms →
      let others := s.mse.queue.filter fun x => x.id != r.id
      let chooses := fun (i : Instr) (u : State) => ∃ t, exec i s = .next t ∧ t = u.setMse { u.mse with engine := t.mse.engine } ∧
        (u.setMse { u.mse with engine := .idle }).Chooses t.mse.engine
      (∀ sum taken, g = .samples sum taken → taken ≠ r.amount →
        exec .measurementCompletion s = .next s ∧ exec .calibrationCompletion s = .next s) ∧
      ∀ v : Int,
        (∃ sum, g = .samples sum r.amount ∧
          (r.kind = .level ∧ r.corrected = true ∧ v = max (-30000) (min 30000 (sum.tdiv r.amount - off)) ∨
           (r.kind = .level ∧ r.corrected = false ∨ r.kind = .current ∨ r.kind = .zero) ∧ v = sum.tdiv r.amount)) ∨
        (∃ high edges highUs since, g = .window high edges highUs since ∧
          (r.kind = .duty ∧ v = ((highUs + if high then e * 1000 - since else 0) / r.amount : Nat) ∨
           r.kind = .freq ∧ v = (min 200000 (edges * 10000 / r.amount) : Nat) ∨ r.kind = .count ∧ v = (min 1000000 edges : Nat))) →
        let ends := fun (i : Instr) (t : State) (o : EntryOutcome) (d : EntryDetail) =>
          chooses i ((t.setMse { t.mse with queue := others }).result r.id ⟨o, d, r.attempts, some (BitVec.ofInt 32 v)⟩)
        (r.kind = .zero →
          exec .measurementCompletion s = .next s ∧
          (-2000 ≤ v → v ≤ 2000 →
            ends .calibrationCompletion (s.setMse { s.mse with offset := s.mse.offset.set r.id.nest v }) .pass .inLimits) ∧
          (v < -2000 → ends .calibrationCompletion s .fail .low) ∧ (2000 < v → ends .calibrationCompletion s .fail .high)) ∧
        (r.kind ≠ .zero →
          let retries := r.attempts ≤ r.retries
          exec .calibrationCompletion s = .next s ∧
          (r.low.toInt ≤ v → v ≤ r.high.toInt → ends .measurementCompletion s .pass .inLimits) ∧
          (v < r.low.toInt → ¬ retries → ends .measurementCompletion s .fail .low) ∧
          (r.low.toInt ≤ v → r.high.toInt < v → ¬ retries → ends .measurementCompletion s .fail .high) ∧
          (v < r.low.toInt ∨ r.high.toInt < v → retries →
            let again : Request := { r with
              attempts := r.attempts + 1, seen := false
              gate := if r.gateEdge = .none then .stopped else .running (s.ms + s.mse.gateTimeout.get r.id.nest) }
            chooses .measurementCompletion
              ((s.setMse { s.mse with queue := others ++ [again] }).progress r.id (r.attempts + 1))))

/-! ## Operator prompts (Chapter 8) -/

/-- POST PROMPT (R152, R153 after steps 1 and 2 of R17, with the announcement of R157), TAKE PROMPT (R154 to R156, Table 10-10) and READ
PROMPT QUEUE (R165, Table 10-11). -/
def Obligations.PromptsPostedAndTaken : Prop :=
  (∀ (n : Nest) (s : State), s.Accepts n.port →
    let r := s.run n
    let u := s.pru
    let p := fun k => s.param n.port k
    let named := paramBits (.postPrompt n.port)
    let refused := fun c => exec (.postPrompt n.port) s = .next (s.answered n.port (.complete c []) named)
    let bad := 3999 < bitField (p 1) 0 12 ∨ 2 < bitField (p 1) 12 2 ∨ 600 < bitField (p 2) 0 10 ∨ 4 < bitField (p 2) 12 3
    let full := 8 ≤ u.queue.length ∨ 5 ≤ u.queue.countP fun x => x.id.nest == n
    (r.state.isOpen = false → refused .wrongState) ∧
    (r.state.isOpen = true → 128 ≤ r.entries.length → refused .noSpace) ∧
    (r.state.isOpen = true → r.entries.length < 128 → bad → refused .range) ∧
    (r.state.isOpen = true → r.entries.length < 128 → ¬ bad → full → refused .noSpace) ∧
    (r.state.isOpen = true → r.entries.length < 128 → ¬ bad → ¬ full → ∃ y : Prompt,
      y.id = ⟨n, r.serial, r.entries.length + 1⟩ ∧ y.tag = p 0 ∧ y.code = bitField (p 1) 0 12 ∧
      y.answers.num = bitField (p 1) 12 2 ∧ y.urgent = flagBit (p 1) 15 ∧
      y.params = [p 3, p 4, p 5, p 6].take (bitField (p 2) 12 3) ∧ y.timeout = bitField (p 2) 0 10 ∧ y.repeatMask = p 7 ∧
      y.attempts = 1 ∧ y.arrival = u.arrivals ∧ y.pres = .waiting ∧ y.timer = .stopped ∧
      exec (.postPrompt n.port) s = .next
        ((((s.setRun n { r with entries := r.entries ++ [⟨.prompt, p 0, .pending, .none, 1, none, none, none⟩] }).setPru
          { u with queue := u.queue ++ [y], arrivals := u.arrivals + 1#16 }).setPort .operator
            (if u.presented? = none ∧ u.presentableSet s.active = [] ∧ s.active n = true then
              (s.port .operator).post ⟨n, .promptReady (if y.urgent then .urgent else .normal)⟩ else s.port .operator)).answered n.port
          (okWith [BitVec.ofNat 16 (r.entries.length + 1)]) named))) ∧
  (∀ s : State, s.Accepts .operator →
    let u := s.pru
    let next := if u.nextTicket = 255 then 1 else u.nextTicket + 1
    (∀ x ticket, u.presented? = some x → x.pres = .presented ticket → ∃ ws, x.SpelledBy ticket s.ms ws ∧
      exec (.takePrompt .operator) s = .next (s.answered .operator (okWith ws))) ∧
    (u.presented? = none → u.presentableSet s.active = [] →
      exec (.takePrompt .operator) s = .next (s.answered .operator (okWith []))) ∧
    (u.presented? = none → u.presentableSet s.active ≠ [] → ∃ x ∈ u.presentableSet s.active,
      (∀ y ∈ u.presentableSet s.active, y.before u.arrivals x = false) ∧
      (∀ n y, x = .system n y → ∃ ws,
        let z : SysPrompt := { y with pres := .presented u.nextTicket }
        (AnyPrompt.system n z).SpelledBy u.nextTicket s.ms ws ∧ exec (.takePrompt .operator) s =
          .next ((s.setPru { u with slots := u.slots.set n (some z), nextTicket := next }).answered .operator (okWith ws))) ∧
      (∀ y, x = .ordinary y → (u.queue.map Prompt.id).Nodup → ∃ ws,
        let z : Prompt := { y with
          pres := .presented u.nextTicket
          timer := if y.timeout = 0 then .stopped else .running (s.ms + y.timeout * 1000) }
        (AnyPrompt.ordinary z).SpelledBy u.nextTicket s.ms ws ∧ exec (.takePrompt .operator) s =
          .next ((s.setPru { u with
            queue := u.queue.map fun v => if v.id = y.id then z else v, nextTicket := next }).answered .operator (okWith ws))))) ∧
  ∀ (p : Port) (s : State), s.Accepts p → ∃ w seq counts a b,
    let u := s.pru
    exec (.readPromptQueue p) s = .next (s.answered p (okWith [w, seq, counts, a, b, BitVec.ofNat 16 u.nextTicket])) ∧
    (u.presented? = none → w = 0#16 ∧ seq = 0#16) ∧
    (∀ n x ticket, u.presented? = some (.system n x) → x.pres = .presented ticket → seq = 0#16 ∧ bitField w 12 2 = 1 ∧
      flagBit w 14 = decide (n = .b) ∧ bitField w 0 8 = ticket % 256 ∧ bitField w 8 4 = 0 ∧ flagBit w 15 = false) ∧
    (∀ x ticket, u.presented? = some (.ordinary x) → x.pres = .presented ticket → seq = BitVec.ofNat 16 x.id.seq ∧
      bitField w 12 2 = 2 ∧ flagBit w 14 = decide (x.id.nest = .b) ∧ bitField w 0 8 = ticket % 256 ∧ bitField w 8 4 = 0 ∧
      flagBit w 15 = false) ∧
    bitField counts 0 4 = u.queue.length % 16 ∧ bitField counts 4 3 = (u.queue.countP fun x => x.id.nest == .a) % 8 ∧
    bitField counts 8 3 = (u.queue.countP fun x => x.id.nest == .b) % 8 ∧
    bitField counts 12 4 = (u.presentableSet s.active).length % 16 ∧
    (let slot := fun (v : Word) (x : Option SysPrompt) => (x = none → v = 0#16) ∧
       ∀ y, x = some y → bitField v 0 12 = y.code % 4096 ∧ flagBit v 15 = true ∧ bitField v 12 3 = 0
     slot a u.slots.a ∧ slot b u.slots.b)

/-- ANSWER PROMPT (R158 to R160, with R43 and R99), DECLINE PROMPT (R161) and ANSWER TIMER EXPIRY (R162), which does nothing where it is
not due (log 3, log 12). -/
def Obligations.PromptsAnswered : Prop :=
  (∀ s : State, s.Accepts .operator →
    let u := s.pru
    let ticket := (s.param .operator 0).toNat
    let answer := (s.param .operator 1).toNat
    let refused := fun (i : Instr) c => exec i s = .next (s.answered .operator (.complete c []))
    let ends := fun (i : Instr) (t : State) => exec i s =
      .next (t.answered .operator (okWith [BitVec.ofNat 16 (t.pru.presentableSet t.active).length]))
    let settled := fun (y : Prompt) o d =>
      (s.setPru { u with queue := u.queue.filter fun x => x.id != y.id }).result y.id ⟨o, d, y.attempts, none⟩
    ((∀ x, u.presented? = some x → x.pres ≠ .presented ticket) →
      refused (.answerPrompt .operator) .stale ∧ refused (.declinePrompt .operator) .stale) ∧
    (∀ n x, u.presented? = some (.system n x) → x.pres = .presented ticket →
      refused (.declinePrompt .operator) .wrongState ∧ (answer ≠ 1 → refused (.answerPrompt .operator) .range) ∧
      (answer = 1 → ends (.answerPrompt .operator) ((s.setPru { u with slots := u.slots.set n none }).setFix n { s.fix n with
        permit := if (s.fix n).state = .fault then true else (s.fix n).permit }))) ∧
    (∀ y, u.presented? = some (.ordinary y) → y.pres = .presented ticket →
      let admitted := y.answers = .ackOnly ∧ answer = 1 ∨ y.answers = .yesNo ∧ (answer = 2 ∨ answer = 3) ∨
        y.answers = .yesNoRepeat ∧ (answer = 2 ∨ answer = 3 ∨ answer = 4)
      ends (.declinePrompt .operator) (settled y .noResult .withdrawn) ∧
      (¬ admitted → refused (.answerPrompt .operator) .range) ∧
      (admitted → answer = 1 → ends (.answerPrompt .operator) (settled y .pass .answerAck)) ∧
      (admitted → answer = 2 → ends (.answerPrompt .operator) (settled y .pass .answerYes)) ∧
      (admitted → answer = 3 → ends (.answerPrompt .operator) (settled y .fail .answerNo)) ∧
      (admitted → answer = 4 → 4 ≤ y.attempts → refused (.answerPrompt .operator) .limit) ∧
      (admitted → answer = 4 → y.attempts < 4 → ∃ (c : State) (stu : Stu),
        c = s.setStu stu ∧ stu.pace = s.stu.pace ∧
        (s.active y.id.nest = false → stu = s.stu) ∧
        (s.active y.id.nest = true → (∀ k, GeneratorsAdopt s c k) ∧ ∀ k : Fin 16, (c.chan k).sameRecord
          (if inMask y.repeatMask k = true ∧ (s.chan k).owner = some y.id.nest ∧ (s.chan k).source = .soft then
            (s.chan k).commit (chanTop k) else s.chan k)) ∧
        let again := fun x : Prompt => { x with
          attempts := x.attempts + 1, timer := if x.timeout = 0 then .stopped else .running (s.ms + x.timeout * 1000) }
        ends (.answerPrompt .operator) ((c.setPru { u with
          queue := u.queue.map fun x => if x.id = y.id then again x else x }).progress y.id (y.attempts + 1))))) ∧
  ∀ s : State,
    let u := s.pru
    ((∀ y e, u.presented? = some (.ordinary y) → y.timer = .running e → s.ms < e) → exec .answerTimerExpiry s = .next s) ∧
    ∀ y e ticket, u.presented? = some (.ordinary y) → y.pres = .presented ticket → y.timer = .running e → e ≤ s.ms →
      exec .answerTimerExpiry s = .next (((s.setPru { u with queue := u.queue.filter fun x => x.id != y.id }).result y.id
        ⟨.noResult, .timeout, y.attempts, none⟩).setPort .operator
          ((s.port .operator).post ⟨y.id.nest, .promptWithdrawn ticket .timeout⟩))

/-! ## What stays true at every step -/

/-- Every invariant below holds right after power-on. That State.reset is the part right after power-on, with the pins' levels it has, is
log 20 and log 5. -/
def Obligations.ResetIsSound : Prop :=
  PortsSound State.reset ∧ CapacitiesKept State.reset ∧ RunsOnContact State.reset ∧ FaultsAwaitOperator State.reset ∧
  MapsSound State.reset ∧ ClaimsSound State.reset ∧ ChannelsInRange State.reset ∧ GeneratorsFollow State.reset ∧
  PaceFollowsRun State.reset ∧ TriggersSound State.reset ∧ LinksSound State.reset ∧ WindowsFollowRun State.reset ∧
  WorkMatchesRecord State.reset ∧ EngineSound State.reset ∧ PromptsSound State.reset

/-- Ports keep their form (R168 to R175), and no record, queue, list or count outgrows its capacity (R4, R15, R23, R105, R119, R130,
R150). -/
def Obligations.PortsAndCapacitiesKept : Prop :=
  (∀ s t, PortsSound s → step s = .next t → PortsSound t) ∧ ∀ s t, CapacitiesKept s → step s = .next t → CapacitiesKept t

/-- A run is ACTIVE only in CONTACTED (R1), a scan and the timers stand only in their states (R27), a nest awaits the operator exactly
in FAULT without its permit (R41 to R44; the premise that no scan stands there is the invariant of the first clause), and the probe map, the spare pool and a scan's working view stay sound (R48, R50, R53 to R57,
R60, R62). -/
def Obligations.FixturesKept : Prop :=
  (∀ s t, RunsOnContact s → step s = .next t → RunsOnContact t) ∧
  (∀ s t, RunsOnContact s → FaultsAwaitOperator s → step s = .next t → FaultsAwaitOperator t) ∧
  ∀ s t, MapsSound s → step s = .next t → MapsSound t

/-- Claims are held only by open runs (R66), channel values stay in range (R80, R91), generators follow their outputs (R84), pace timers
and watch windows follow the run (R76, R126), filters and links stay sound (R73, R103 to R112). -/
def Obligations.FollowersKept : Prop :=
  (∀ s t, ClaimsSound s → step s = .next t → ClaimsSound t) ∧ (∀ s t, ChannelsInRange s → step s = .next t → ChannelsInRange t) ∧
  (∀ s t, GeneratorsFollow s → step s = .next t → GeneratorsFollow t) ∧
  (∀ s t, PaceFollowsRun s → step s = .next t → PaceFollowsRun t) ∧ (∀ s t, TriggersSound s → step s = .next t → TriggersSound t) ∧
  (∀ s t, LinksSound s → step s = .next t → LinksSound t) ∧ ∀ s t, WindowsFollowRun s → step s = .next t → WindowsFollowRun t

/-- R18: for each nest the PENDING entries are as many as its requests in the queue, its ordinary prompts and its armed watches together, and
that is the pending count READ NEST STATUS reports. Every step keeps this in the form of WorkMatchesRecord: the work and the entries stay
one to one, each of the same kind and of the current run. -/
def Obligations.WorkMatchesRecordKept : Prop :=
  (∀ s t, WorkMatchesRecord s → step s = .next t → WorkMatchesRecord t) ∧
  ∀ s n, WorkMatchesRecord s →
    ((s.run n).entries.countP fun e => e.outcome == .pending) = (s.works n).length ∧
    (s.works n).length = (s.mse.queue.countP fun r => r.id.nest == n) + (s.pru.queue.countP fun x => x.id.nest == n) +
      (s.bus n).watches.toList.countP Option.isSome ∧
    (s.run n).pendingCount = (s.works n).length

/-- The engine never stands idle beside a ready request of an ACTIVE nest, and works only on such a one (R138); at most one prompt is
presented, one of an ACTIVE run or a system prompt (R154). The premise is the invariant WorkMatchesRecordKept states. -/
def Obligations.EngineAndPromptsKept : Prop :=
  (∀ s t, WorkMatchesRecord s → EngineSound s → step s = .next t → EngineSound t) ∧
  ∀ s t, WorkMatchesRecord s → PromptsSound s → step s = .next t → PromptsSound t
end

