-- ==== Sys2Proof/Laws/State.lean ====
section
/-! SUPPORT. What each update of State leaves and sets; the halves of PerNest and PerPort. -/

namespace Sys2Proof.Machine

/-! ## PerNest and PerPort -/

@[simp] theorem PerNest.get_set {α : Type} (x : PerNest α) (n : Nest) (v : α) : (x.set n v).get n = v := by cases n <;> rfl

@[simp] theorem PerNest.get_set_other {α : Type} (x : PerNest α) (n : Nest) (v : α) :
    (x.set n v).get n.other = x.get n.other := by cases n <;> rfl

@[simp] theorem PerNest.get_other_set {α : Type} (x : PerNest α) (n : Nest) (v : α) :
    (x.set n.other v).get n = x.get n := by cases n <;> rfl

theorem PerNest.get_set_ne {α : Type} (x : PerNest α) {n m : Nest} (v : α) (h : m ≠ n) : (x.set n v).get m = x.get m := by
  cases n <;> cases m <;> first | rfl | exact absurd rfl h

theorem PerNest.get_set_if {α : Type} (x : PerNest α) (n m : Nest) (v : α) :
    (x.set n v).get m = if m = n then v else x.get m := by cases n <;> cases m <;> rfl

@[simp] theorem PerNest.set_set {α : Type} (x : PerNest α) (n : Nest) (v w : α) : (x.set n v).set n w = x.set n w := by
  cases n <;> rfl

@[simp] theorem PerNest.set_get {α : Type} (x : PerNest α) (n : Nest) : x.set n (x.get n) = x := by cases n <;> rfl

@[simp] theorem PerPort.get_set {α : Type} (x : PerPort α) (p : Port) (v : α) : (x.set p v).get p = v := by cases p <;> rfl

theorem PerPort.get_set_ne {α : Type} (x : PerPort α) {p q : Port} (v : α) (h : q ≠ p) : (x.set p v).get q = x.get q := by
  cases p <;> cases q <;> first | rfl | exact absurd rfl h

theorem PerPort.get_set_if {α : Type} (x : PerPort α) (p q : Port) (v : α) :
    (x.set p v).get q = if q = p then v else x.get q := by cases p <;> cases q <;> rfl

@[simp] theorem PerPort.set_set {α : Type} (x : PerPort α) (p : Port) (v w : α) : (x.set p v).set p w = x.set p w := by
  cases p <;> rfl

@[simp] theorem PerPort.set_get {α : Type} (x : PerPort α) (p : Port) : x.set p (x.get p) = x := by cases p <;> rfl

@[simp] theorem Nest.other_other (n : Nest) : n.other.other = n := by cases n <;> rfl

@[simp] theorem Nest.other_ne (n : Nest) : n.other ≠ n := by cases n <;> decide

@[simp] theorem Nest.ne_other (n : Nest) : n ≠ n.other := by cases n <;> decide

theorem Nest.eq_or_other (n m : Nest) : m = n ∨ m = n.other := by cases n <;> cases m <;> simp [Nest.other]

@[simp] theorem Nest.nest_port (n : Nest) : n.port.nest? = some n := by cases n <;> rfl

@[simp] theorem Nest.port_ne_operator (n : Nest) : n.port ≠ .operator := by cases n <;> decide

@[simp] theorem Nest.port_inj (n m : Nest) : n.port = m.port ↔ n = m := by cases n <;> cases m <;> simp [Nest.port]

/-- Two states are equal when every part is. -/
theorem State.ext_parts {s t : State} (h1 : s.pending = t.pending) (h2 : s.ms = t.ms) (h3 : s.resetCause = t.resetCause)
    (h4 : s.stop = t.stop) (h5 : s.ports = t.ports) (h6 : s.rnc = t.rnc) (h7 : s.fxc = t.fxc) (h8 : s.stu = t.stu)
    (h9 : s.tri = t.tri) (h10 : s.beu = t.beu) (h11 : s.mse = t.mse) (h12 : s.pru = t.pru)
    (h13 : s.openChoices = t.openChoices) : s = t := by
  cases s; cases t; simp_all

/-! ## Updates of State -/

@[simp] theorem State.setPort_keeps (s : State) (p : Port) (w : PortWindow) :
    (s.setPort p w).pending = s.pending ∧ (s.setPort p w).ms = s.ms ∧ (s.setPort p w).resetCause = s.resetCause ∧
    (s.setPort p w).stop = s.stop ∧ (s.setPort p w).rnc = s.rnc ∧ (s.setPort p w).fxc = s.fxc ∧ (s.setPort p w).stu = s.stu ∧
    (s.setPort p w).tri = s.tri ∧ (s.setPort p w).beu = s.beu ∧ (s.setPort p w).mse = s.mse ∧ (s.setPort p w).pru = s.pru ∧
    (s.setPort p w).openChoices = s.openChoices ∧ (∀ m', (s.setPort p w).run m' = s.run m') ∧
    (s.setPort p w).active = s.active ∧ (∀ m', (s.setPort p w).fix m' = s.fix m') ∧
    (∀ m', (s.setPort p w).bus m' = s.bus m') ∧ (∀ c', (s.setPort p w).chan c' = s.chan c') ∧ (s.setPort p w).clock = s.clock :=
  ⟨rfl, rfl, rfl, rfl, rfl, rfl, rfl, rfl, rfl, rfl, rfl, rfl, fun _ => rfl, rfl, fun _ => rfl, fun _ => rfl, fun _ => rfl, rfl⟩

@[simp] theorem State.setRun_keeps (s : State) (n : Nest) (r : Rnc) :
    (s.setRun n r).pending = s.pending ∧ (s.setRun n r).ms = s.ms ∧ (s.setRun n r).resetCause = s.resetCause ∧
    (s.setRun n r).stop = s.stop ∧ (s.setRun n r).ports = s.ports ∧ (s.setRun n r).fxc = s.fxc ∧ (s.setRun n r).stu = s.stu ∧
    (s.setRun n r).tri = s.tri ∧ (s.setRun n r).beu = s.beu ∧ (s.setRun n r).mse = s.mse ∧ (s.setRun n r).pru = s.pru ∧
    (s.setRun n r).openChoices = s.openChoices ∧ (∀ p', (s.setRun n r).port p' = s.port p') ∧
    (∀ m', (s.setRun n r).fix m' = s.fix m') ∧ (∀ m', (s.setRun n r).bus m' = s.bus m') ∧
    (∀ c', (s.setRun n r).chan c' = s.chan c') ∧ (s.setRun n r).clock = s.clock :=
  ⟨rfl, rfl, rfl, rfl, rfl, rfl, rfl, rfl, rfl, rfl, rfl, rfl, fun _ => rfl, fun _ => rfl, fun _ => rfl, fun _ => rfl, rfl⟩

@[simp] theorem State.setFix_keeps (s : State) (n : Nest) (f : Fxc) :
    (s.setFix n f).pending = s.pending ∧ (s.setFix n f).ms = s.ms ∧ (s.setFix n f).resetCause = s.resetCause ∧
    (s.setFix n f).stop = s.stop ∧ (s.setFix n f).ports = s.ports ∧ (s.setFix n f).rnc = s.rnc ∧ (s.setFix n f).stu = s.stu ∧
    (s.setFix n f).tri = s.tri ∧ (s.setFix n f).beu = s.beu ∧ (s.setFix n f).mse = s.mse ∧ (s.setFix n f).pru = s.pru ∧
    (s.setFix n f).openChoices = s.openChoices ∧ (∀ p', (s.setFix n f).port p' = s.port p') ∧
    (∀ m', (s.setFix n f).run m' = s.run m') ∧ (s.setFix n f).active = s.active ∧ (∀ m', (s.setFix n f).bus m' = s.bus m') ∧
    (∀ c', (s.setFix n f).chan c' = s.chan c') ∧ (s.setFix n f).clock = s.clock :=
  ⟨rfl, rfl, rfl, rfl, rfl, rfl, rfl, rfl, rfl, rfl, rfl, rfl, fun _ => rfl, fun _ => rfl, rfl, fun _ => rfl, fun _ => rfl, rfl⟩

@[simp] theorem State.setBus_keeps (s : State) (n : Nest) (b : Beu) :
    (s.setBus n b).pending = s.pending ∧ (s.setBus n b).ms = s.ms ∧ (s.setBus n b).resetCause = s.resetCause ∧
    (s.setBus n b).stop = s.stop ∧ (s.setBus n b).ports = s.ports ∧ (s.setBus n b).rnc = s.rnc ∧ (s.setBus n b).fxc = s.fxc ∧
    (s.setBus n b).stu = s.stu ∧ (s.setBus n b).tri = s.tri ∧ (s.setBus n b).mse = s.mse ∧ (s.setBus n b).pru = s.pru ∧
    (s.setBus n b).openChoices = s.openChoices ∧ (∀ p', (s.setBus n b).port p' = s.port p') ∧
    (∀ m', (s.setBus n b).run m' = s.run m') ∧ (s.setBus n b).active = s.active ∧ (∀ m', (s.setBus n b).fix m' = s.fix m') ∧
    (∀ c', (s.setBus n b).chan c' = s.chan c') ∧ (s.setBus n b).clock = s.clock :=
  ⟨rfl, rfl, rfl, rfl, rfl, rfl, rfl, rfl, rfl, rfl, rfl, rfl, fun _ => rfl, fun _ => rfl, rfl, fun _ => rfl, fun _ => rfl, rfl⟩

@[simp] theorem State.setStu_keeps (s : State) (x : Stu) :
    (s.setStu x).pending = s.pending ∧ (s.setStu x).ms = s.ms ∧ (s.setStu x).resetCause = s.resetCause ∧
    (s.setStu x).stop = s.stop ∧ (s.setStu x).ports = s.ports ∧ (s.setStu x).rnc = s.rnc ∧ (s.setStu x).fxc = s.fxc ∧
    (s.setStu x).tri = s.tri ∧ (s.setStu x).beu = s.beu ∧ (s.setStu x).mse = s.mse ∧ (s.setStu x).pru = s.pru ∧
    (s.setStu x).openChoices = s.openChoices ∧ (∀ p', (s.setStu x).port p' = s.port p') ∧
    (∀ m', (s.setStu x).run m' = s.run m') ∧ (s.setStu x).active = s.active ∧ (∀ m', (s.setStu x).fix m' = s.fix m') ∧
    (∀ m', (s.setStu x).bus m' = s.bus m') ∧ (s.setStu x).clock = s.clock :=
  ⟨rfl, rfl, rfl, rfl, rfl, rfl, rfl, rfl, rfl, rfl, rfl, rfl, fun _ => rfl, fun _ => rfl, rfl, fun _ => rfl, fun _ => rfl, rfl⟩

@[simp] theorem State.setMse_keeps (s : State) (x : Mse) :
    (s.setMse x).pending = s.pending ∧ (s.setMse x).ms = s.ms ∧ (s.setMse x).resetCause = s.resetCause ∧
    (s.setMse x).stop = s.stop ∧ (s.setMse x).ports = s.ports ∧ (s.setMse x).rnc = s.rnc ∧ (s.setMse x).fxc = s.fxc ∧
    (s.setMse x).stu = s.stu ∧ (s.setMse x).tri = s.tri ∧ (s.setMse x).beu = s.beu ∧ (s.setMse x).pru = s.pru ∧
    (s.setMse x).openChoices = s.openChoices ∧ (∀ p', (s.setMse x).port p' = s.port p') ∧
    (∀ m', (s.setMse x).run m' = s.run m') ∧ (s.setMse x).active = s.active ∧ (∀ m', (s.setMse x).fix m' = s.fix m') ∧
    (∀ m', (s.setMse x).bus m' = s.bus m') ∧ (∀ c', (s.setMse x).chan c' = s.chan c') ∧ (s.setMse x).clock = s.clock :=
  ⟨rfl, rfl, rfl, rfl, rfl, rfl, rfl, rfl, rfl, rfl, rfl, rfl, fun _ => rfl, fun _ => rfl, rfl, fun _ => rfl, fun _ => rfl, fun _ => rfl, rfl⟩

@[simp] theorem State.setPru_keeps (s : State) (x : Pru) :
    (s.setPru x).pending = s.pending ∧ (s.setPru x).ms = s.ms ∧ (s.setPru x).resetCause = s.resetCause ∧
    (s.setPru x).stop = s.stop ∧ (s.setPru x).ports = s.ports ∧ (s.setPru x).rnc = s.rnc ∧ (s.setPru x).fxc = s.fxc ∧
    (s.setPru x).stu = s.stu ∧ (s.setPru x).tri = s.tri ∧ (s.setPru x).beu = s.beu ∧ (s.setPru x).mse = s.mse ∧
    (s.setPru x).openChoices = s.openChoices ∧ (∀ p', (s.setPru x).port p' = s.port p') ∧
    (∀ m', (s.setPru x).run m' = s.run m') ∧ (s.setPru x).active = s.active ∧ (∀ m', (s.setPru x).fix m' = s.fix m') ∧
    (∀ m', (s.setPru x).bus m' = s.bus m') ∧ (∀ c', (s.setPru x).chan c' = s.chan c') ∧ (s.setPru x).clock = s.clock :=
  ⟨rfl, rfl, rfl, rfl, rfl, rfl, rfl, rfl, rfl, rfl, rfl, rfl, fun _ => rfl, fun _ => rfl, rfl, fun _ => rfl, fun _ => rfl, fun _ => rfl, rfl⟩

@[simp] theorem State.setTri_keeps (s : State) (x : Vector TriggerLine 4) :
    (s.setTri x).pending = s.pending ∧ (s.setTri x).ms = s.ms ∧ (s.setTri x).resetCause = s.resetCause ∧
    (s.setTri x).stop = s.stop ∧ (s.setTri x).ports = s.ports ∧ (s.setTri x).rnc = s.rnc ∧ (s.setTri x).fxc = s.fxc ∧
    (s.setTri x).stu = s.stu ∧ (s.setTri x).beu = s.beu ∧ (s.setTri x).mse = s.mse ∧ (s.setTri x).pru = s.pru ∧
    (s.setTri x).openChoices = s.openChoices ∧ (∀ p', (s.setTri x).port p' = s.port p') ∧
    (∀ m', (s.setTri x).run m' = s.run m') ∧ (s.setTri x).active = s.active ∧ (∀ m', (s.setTri x).fix m' = s.fix m') ∧
    (∀ m', (s.setTri x).bus m' = s.bus m') ∧ (∀ c', (s.setTri x).chan c' = s.chan c') ∧ (s.setTri x).clock = s.clock :=
  ⟨rfl, rfl, rfl, rfl, rfl, rfl, rfl, rfl, rfl, rfl, rfl, rfl, fun _ => rfl, fun _ => rfl, rfl, fun _ => rfl, fun _ => rfl, fun _ => rfl, rfl⟩

@[simp] theorem State.setPort_ports (s : State) (p : Port) (w : PortWindow) : (s.setPort p w).ports = s.ports.set p w := rfl

@[simp] theorem State.setRun_rnc (s : State) (n : Nest) (r : Rnc) : (s.setRun n r).rnc = s.rnc.set n r := rfl

@[simp] theorem State.setFix_fxc (s : State) (n : Nest) (f : Fxc) : (s.setFix n f).fxc = s.fxc.set n f := rfl

@[simp] theorem State.setBus_beu (s : State) (n : Nest) (b : Beu) : (s.setBus n b).beu = s.beu.set n b := rfl

@[simp] theorem State.setStu_stu (s : State) (x : Stu) : (s.setStu x).stu = x := rfl

@[simp] theorem State.setMse_mse (s : State) (x : Mse) : (s.setMse x).mse = x := rfl

@[simp] theorem State.setPru_pru (s : State) (x : Pru) : (s.setPru x).pru = x := rfl

@[simp] theorem State.setTri_tri (s : State) (x : Vector TriggerLine 4) : (s.setTri x).tri = x := rfl

@[simp] theorem State.port_setPort (s : State) (p : Port) (w : PortWindow) : (s.setPort p w).port p = w := by cases p <;> rfl

theorem State.port_setPort_if (s : State) (p q : Port) (w : PortWindow) :
    (s.setPort p w).port q = if q = p then w else s.port q := PerPort.get_set_if ..

@[simp] theorem State.run_setRun (s : State) (n : Nest) (r : Rnc) : (s.setRun n r).run n = r := by cases n <;> rfl

@[simp] theorem State.run_setRun_other (s : State) (n : Nest) (r : Rnc) : (s.setRun n r).run n.other = s.run n.other := by
  cases n <;> rfl

theorem State.run_setRun_if (s : State) (n m : Nest) (r : Rnc) : (s.setRun n r).run m = if m = n then r else s.run m :=
  PerNest.get_set_if ..

@[simp] theorem State.fix_setFix (s : State) (n : Nest) (f : Fxc) : (s.setFix n f).fix n = f := by cases n <;> rfl

@[simp] theorem State.fix_setFix_other (s : State) (n : Nest) (f : Fxc) : (s.setFix n f).fix n.other = s.fix n.other := by
  cases n <;> rfl

theorem State.fix_setFix_if (s : State) (n m : Nest) (f : Fxc) : (s.setFix n f).fix m = if m = n then f else s.fix m :=
  PerNest.get_set_if ..

@[simp] theorem State.bus_setBus (s : State) (n : Nest) (b : Beu) : (s.setBus n b).bus n = b := by cases n <;> rfl

@[simp] theorem State.bus_setBus_other (s : State) (n : Nest) (b : Beu) : (s.setBus n b).bus n.other = s.bus n.other := by
  cases n <;> rfl

theorem State.bus_setBus_if (s : State) (n m : Nest) (b : Beu) : (s.setBus n b).bus m = if m = n then b else s.bus m :=
  PerNest.get_set_if ..

@[simp] theorem State.setPort_setPort (s : State) (p : Port) (w v : PortWindow) :
    (s.setPort p w).setPort p v = s.setPort p v := by simp [State.setPort]

@[simp] theorem State.setRun_setRun (s : State) (n : Nest) (r q : Rnc) : (s.setRun n r).setRun n q = s.setRun n q := by
  simp [State.setRun]

@[simp] theorem State.setFix_setFix (s : State) (n : Nest) (f g : Fxc) : (s.setFix n f).setFix n g = s.setFix n g := by
  simp [State.setFix]

@[simp] theorem State.setBus_setBus (s : State) (n : Nest) (b c : Beu) : (s.setBus n b).setBus n c = s.setBus n c := by
  simp [State.setBus]

@[simp] theorem State.setPort_port (s : State) (p : Port) : s.setPort p (s.port p) = s := by simp [State.setPort, State.port]

@[simp] theorem State.setRun_run (s : State) (n : Nest) : s.setRun n (s.run n) = s := by simp [State.setRun, State.run]

@[simp] theorem State.setFix_fix (s : State) (n : Nest) : s.setFix n (s.fix n) = s := by simp [State.setFix, State.fix]

@[simp] theorem State.setBus_bus (s : State) (n : Nest) : s.setBus n (s.bus n) = s := by simp [State.setBus, State.bus]

end Sys2Proof.Machine
end

