-- ==== Sys2Proof/Laws/Frames.lean ====
section
/-! SUPPORT. What each shared operation leaves as it is: one lemma for each, a conjunction of equations that simp uses. -/

namespace Sys2Proof.Machine

@[simp] theorem State.post_keeps (s : State) (p : Port) (x : Notice) :
    (s.post p x).pending = s.pending ∧ (s.post p x).ms = s.ms ∧ (s.post p x).resetCause = s.resetCause ∧
    (s.post p x).stop = s.stop ∧ (s.post p x).rnc = s.rnc ∧ (s.post p x).fxc = s.fxc ∧ (s.post p x).stu = s.stu ∧
    (s.post p x).tri = s.tri ∧ (s.post p x).beu = s.beu ∧ (s.post p x).mse = s.mse ∧ (s.post p x).pru = s.pru ∧
    (s.post p x).openChoices = s.openChoices ∧ (∀ m', (s.post p x).run m' = s.run m') ∧ (s.post p x).active = s.active ∧
    (∀ m', (s.post p x).fix m' = s.fix m') ∧ (∀ m', (s.post p x).bus m' = s.bus m') ∧
    (∀ c', (s.post p x).chan c' = s.chan c') ∧ (s.post p x).clock = s.clock := by
  unfold State.post
  try dsimp only
  simp

@[simp] theorem State.postStation_keeps (s : State) (n : Nest) (b : NoticeBody) :
    (s.postStation n b).pending = s.pending ∧ (s.postStation n b).ms = s.ms ∧ (s.postStation n b).resetCause = s.resetCause ∧
    (s.postStation n b).stop = s.stop ∧ (s.postStation n b).rnc = s.rnc ∧ (s.postStation n b).fxc = s.fxc ∧
    (s.postStation n b).stu = s.stu ∧ (s.postStation n b).tri = s.tri ∧ (s.postStation n b).beu = s.beu ∧
    (s.postStation n b).mse = s.mse ∧ (s.postStation n b).pru = s.pru ∧ (s.postStation n b).openChoices = s.openChoices ∧
    (∀ m', (s.postStation n b).run m' = s.run m') ∧ (s.postStation n b).active = s.active ∧
    (∀ m', (s.postStation n b).fix m' = s.fix m') ∧ (∀ m', (s.postStation n b).bus m' = s.bus m') ∧
    (∀ c', (s.postStation n b).chan c' = s.chan c') ∧ (s.postStation n b).clock = s.clock := by
  unfold State.postStation
  try dsimp only
  simp

@[simp] theorem State.postOperator_keeps (s : State) (n : Nest) (b : NoticeBody) :
    (s.postOperator n b).pending = s.pending ∧ (s.postOperator n b).ms = s.ms ∧
    (s.postOperator n b).resetCause = s.resetCause ∧ (s.postOperator n b).stop = s.stop ∧ (s.postOperator n b).rnc = s.rnc ∧
    (s.postOperator n b).fxc = s.fxc ∧ (s.postOperator n b).stu = s.stu ∧ (s.postOperator n b).tri = s.tri ∧
    (s.postOperator n b).beu = s.beu ∧ (s.postOperator n b).mse = s.mse ∧ (s.postOperator n b).pru = s.pru ∧
    (s.postOperator n b).openChoices = s.openChoices ∧ (∀ m', (s.postOperator n b).run m' = s.run m') ∧
    (s.postOperator n b).active = s.active ∧ (∀ m', (s.postOperator n b).fix m' = s.fix m') ∧
    (∀ m', (s.postOperator n b).bus m' = s.bus m') ∧ (∀ c', (s.postOperator n b).chan c' = s.chan c') ∧
    (s.postOperator n b).clock = s.clock := by
  unfold State.postOperator
  try dsimp only
  simp

@[simp] theorem State.postAll_keeps (s : State) (n : Nest) (l : List NoticeBody) :
    (s.postAll n l).pending = s.pending ∧ (s.postAll n l).ms = s.ms ∧ (s.postAll n l).resetCause = s.resetCause ∧
    (s.postAll n l).stop = s.stop ∧ (s.postAll n l).rnc = s.rnc ∧ (s.postAll n l).fxc = s.fxc ∧ (s.postAll n l).stu = s.stu ∧
    (s.postAll n l).tri = s.tri ∧ (s.postAll n l).beu = s.beu ∧ (s.postAll n l).mse = s.mse ∧ (s.postAll n l).pru = s.pru ∧
    (s.postAll n l).openChoices = s.openChoices ∧ (∀ m', (s.postAll n l).run m' = s.run m') ∧
    (s.postAll n l).active = s.active ∧ (∀ m', (s.postAll n l).fix m' = s.fix m') ∧
    (∀ m', (s.postAll n l).bus m' = s.bus m') ∧ (∀ c', (s.postAll n l).chan c' = s.chan c') ∧ (s.postAll n l).clock = s.clock := by
  induction l generalizing s with
  | nil => simp [State.postAll]
  | cons x l ih =>
    have h := ih (s.postStation n x)
    simpa [State.postAll] using h

@[simp] theorem State.postGranted_keeps (s : State) (n : Nest) (mask : Word) :
    (s.postGranted n mask).pending = s.pending ∧ (s.postGranted n mask).ms = s.ms ∧
    (s.postGranted n mask).resetCause = s.resetCause ∧ (s.postGranted n mask).stop = s.stop ∧
    (s.postGranted n mask).rnc = s.rnc ∧ (s.postGranted n mask).fxc = s.fxc ∧ (s.postGranted n mask).stu = s.stu ∧
    (s.postGranted n mask).tri = s.tri ∧ (s.postGranted n mask).beu = s.beu ∧ (s.postGranted n mask).mse = s.mse ∧
    (s.postGranted n mask).pru = s.pru ∧ (s.postGranted n mask).openChoices = s.openChoices ∧
    (∀ m', (s.postGranted n mask).run m' = s.run m') ∧ (s.postGranted n mask).active = s.active ∧
    (∀ m', (s.postGranted n mask).fix m' = s.fix m') ∧ (∀ m', (s.postGranted n mask).bus m' = s.bus m') ∧
    (∀ c', (s.postGranted n mask).chan c' = s.chan c') ∧ (s.postGranted n mask).clock = s.clock := by
  unfold State.postGranted
  try dsimp only
  (repeat' split) <;> simp

@[simp] theorem State.postFixture_keeps (s : State) (n : Nest) (d : FixtureDetail) :
    (s.postFixture n d).pending = s.pending ∧ (s.postFixture n d).ms = s.ms ∧ (s.postFixture n d).resetCause = s.resetCause ∧
    (s.postFixture n d).stop = s.stop ∧ (s.postFixture n d).rnc = s.rnc ∧ (s.postFixture n d).fxc = s.fxc ∧
    (s.postFixture n d).stu = s.stu ∧ (s.postFixture n d).tri = s.tri ∧ (s.postFixture n d).beu = s.beu ∧
    (s.postFixture n d).mse = s.mse ∧ (s.postFixture n d).pru = s.pru ∧ (s.postFixture n d).openChoices = s.openChoices ∧
    (∀ m', (s.postFixture n d).run m' = s.run m') ∧ (s.postFixture n d).active = s.active ∧
    (∀ m', (s.postFixture n d).fix m' = s.fix m') ∧ (∀ m', (s.postFixture n d).bus m' = s.bus m') ∧
    (∀ c', (s.postFixture n d).chan c' = s.chan c') ∧ (s.postFixture n d).clock = s.clock := by
  unfold State.postFixture
  try dsimp only
  simp

@[simp] theorem State.announce_keeps (s : State) (b : Bool) :
    (s.announce b).pending = s.pending ∧ (s.announce b).ms = s.ms ∧ (s.announce b).resetCause = s.resetCause ∧
    (s.announce b).stop = s.stop ∧ (s.announce b).rnc = s.rnc ∧ (s.announce b).fxc = s.fxc ∧ (s.announce b).stu = s.stu ∧
    (s.announce b).tri = s.tri ∧ (s.announce b).beu = s.beu ∧ (s.announce b).mse = s.mse ∧ (s.announce b).pru = s.pru ∧
    (s.announce b).openChoices = s.openChoices ∧ (∀ m', (s.announce b).run m' = s.run m') ∧
    (s.announce b).active = s.active ∧ (∀ m', (s.announce b).fix m' = s.fix m') ∧ (∀ m', (s.announce b).bus m' = s.bus m') ∧
    (∀ c', (s.announce b).chan c' = s.chan c') ∧ (s.announce b).clock = s.clock := by
  unfold State.announce
  try dsimp only
  (repeat' split) <;> simp

@[simp] theorem State.noticeWithdrawn_keeps (s : State) (c : WorkId → Bool) (d : WithdrawDetail) :
    (s.noticeWithdrawn c d).pending = s.pending ∧ (s.noticeWithdrawn c d).ms = s.ms ∧
    (s.noticeWithdrawn c d).resetCause = s.resetCause ∧ (s.noticeWithdrawn c d).stop = s.stop ∧
    (s.noticeWithdrawn c d).rnc = s.rnc ∧ (s.noticeWithdrawn c d).fxc = s.fxc ∧ (s.noticeWithdrawn c d).stu = s.stu ∧
    (s.noticeWithdrawn c d).tri = s.tri ∧ (s.noticeWithdrawn c d).beu = s.beu ∧ (s.noticeWithdrawn c d).mse = s.mse ∧
    (s.noticeWithdrawn c d).pru = s.pru ∧ (s.noticeWithdrawn c d).openChoices = s.openChoices ∧
    (∀ m', (s.noticeWithdrawn c d).run m' = s.run m') ∧ (s.noticeWithdrawn c d).active = s.active ∧
    (∀ m', (s.noticeWithdrawn c d).fix m' = s.fix m') ∧ (∀ m', (s.noticeWithdrawn c d).bus m' = s.bus m') ∧
    (∀ c', (s.noticeWithdrawn c d).chan c' = s.chan c') ∧ (s.noticeWithdrawn c d).clock = s.clock := by
  unfold State.noticeWithdrawn
  try dsimp only
  (repeat' split) <;> simp

@[simp] theorem State.pruBecameActive_keeps (s : State) (n : Nest) :
    (s.pruBecameActive n).pending = s.pending ∧ (s.pruBecameActive n).ms = s.ms ∧
    (s.pruBecameActive n).resetCause = s.resetCause ∧ (s.pruBecameActive n).stop = s.stop ∧
    (s.pruBecameActive n).rnc = s.rnc ∧ (s.pruBecameActive n).fxc = s.fxc ∧ (s.pruBecameActive n).stu = s.stu ∧
    (s.pruBecameActive n).tri = s.tri ∧ (s.pruBecameActive n).beu = s.beu ∧ (s.pruBecameActive n).mse = s.mse ∧
    (s.pruBecameActive n).pru = s.pru ∧ (s.pruBecameActive n).openChoices = s.openChoices ∧
    (∀ m', (s.pruBecameActive n).run m' = s.run m') ∧ (s.pruBecameActive n).active = s.active ∧
    (∀ m', (s.pruBecameActive n).fix m' = s.fix m') ∧ (∀ m', (s.pruBecameActive n).bus m' = s.bus m') ∧
    (∀ c', (s.pruBecameActive n).chan c' = s.chan c') ∧ (s.pruBecameActive n).clock = s.clock := by
  unfold State.pruBecameActive
  try dsimp only
  simp

/-! ## Stimulus -/

@[simp] theorem State.mapChans_keeps (s : State) (f : Fin 16 → Channel → Channel) :
    (s.mapChans f).pending = s.pending ∧ (s.mapChans f).ms = s.ms ∧ (s.mapChans f).resetCause = s.resetCause ∧
    (s.mapChans f).stop = s.stop ∧ (s.mapChans f).ports = s.ports ∧ (s.mapChans f).rnc = s.rnc ∧ (s.mapChans f).fxc = s.fxc ∧
    (s.mapChans f).tri = s.tri ∧ (s.mapChans f).beu = s.beu ∧ (s.mapChans f).mse = s.mse ∧ (s.mapChans f).pru = s.pru ∧
    (s.mapChans f).openChoices = s.openChoices ∧ (∀ p', (s.mapChans f).port p' = s.port p') ∧
    (∀ m', (s.mapChans f).run m' = s.run m') ∧ (s.mapChans f).active = s.active ∧ (∀ m', (s.mapChans f).fix m' = s.fix m') ∧
    (∀ m', (s.mapChans f).bus m' = s.bus m') ∧ (s.mapChans f).clock = s.clock := by
  unfold State.mapChans
  try dsimp only
  simp

@[simp] theorem State.setChan_keeps (s : State) (c : Fin 16) (ch : Channel) :
    (s.setChan c ch).pending = s.pending ∧ (s.setChan c ch).ms = s.ms ∧ (s.setChan c ch).resetCause = s.resetCause ∧
    (s.setChan c ch).stop = s.stop ∧ (s.setChan c ch).ports = s.ports ∧ (s.setChan c ch).rnc = s.rnc ∧
    (s.setChan c ch).fxc = s.fxc ∧ (s.setChan c ch).tri = s.tri ∧ (s.setChan c ch).beu = s.beu ∧
    (s.setChan c ch).mse = s.mse ∧ (s.setChan c ch).pru = s.pru ∧ (s.setChan c ch).openChoices = s.openChoices ∧
    (∀ p', (s.setChan c ch).port p' = s.port p') ∧ (∀ m', (s.setChan c ch).run m' = s.run m') ∧
    (s.setChan c ch).active = s.active ∧ (∀ m', (s.setChan c ch).fix m' = s.fix m') ∧
    (∀ m', (s.setChan c ch).bus m' = s.bus m') ∧ (s.setChan c ch).clock = s.clock := by
  unfold State.setChan
  try dsimp only
  simp

@[simp] theorem State.setPace_keeps (s : State) (n : Nest) (x : Pace) :
    (s.setPace n x).pending = s.pending ∧ (s.setPace n x).ms = s.ms ∧ (s.setPace n x).resetCause = s.resetCause ∧
    (s.setPace n x).stop = s.stop ∧ (s.setPace n x).ports = s.ports ∧ (s.setPace n x).rnc = s.rnc ∧
    (s.setPace n x).fxc = s.fxc ∧ (s.setPace n x).tri = s.tri ∧ (s.setPace n x).beu = s.beu ∧ (s.setPace n x).mse = s.mse ∧
    (s.setPace n x).pru = s.pru ∧ (s.setPace n x).openChoices = s.openChoices ∧ (∀ p', (s.setPace n x).port p' = s.port p') ∧
    (∀ m', (s.setPace n x).run m' = s.run m') ∧ (s.setPace n x).active = s.active ∧
    (∀ m', (s.setPace n x).fix m' = s.fix m') ∧ (∀ m', (s.setPace n x).bus m' = s.bus m') ∧ (s.setPace n x).clock = s.clock := by
  unfold State.setPace
  try dsimp only
  simp

@[simp] theorem State.syncGenerators_keeps (s : State)  :
    (s.syncGenerators).pending = s.pending ∧ (s.syncGenerators).ms = s.ms ∧ (s.syncGenerators).resetCause = s.resetCause ∧
    (s.syncGenerators).stop = s.stop ∧ (s.syncGenerators).ports = s.ports ∧ (s.syncGenerators).rnc = s.rnc ∧
    (s.syncGenerators).fxc = s.fxc ∧ (s.syncGenerators).tri = s.tri ∧ (s.syncGenerators).beu = s.beu ∧
    (s.syncGenerators).mse = s.mse ∧ (s.syncGenerators).pru = s.pru ∧ (s.syncGenerators).openChoices = s.openChoices ∧
    (∀ p', (s.syncGenerators).port p' = s.port p') ∧ (∀ m', (s.syncGenerators).run m' = s.run m') ∧
    (s.syncGenerators).active = s.active ∧ (∀ m', (s.syncGenerators).fix m' = s.fix m') ∧
    (∀ m', (s.syncGenerators).bus m' = s.bus m') ∧ (s.syncGenerators).clock = s.clock := by
  unfold State.syncGenerators
  try dsimp only
  simp

@[simp] theorem State.commitWhere_keeps (s : State) (sel : Fin 16 → Channel → Bool) :
    (s.commitWhere sel).pending = s.pending ∧ (s.commitWhere sel).ms = s.ms ∧ (s.commitWhere sel).resetCause = s.resetCause ∧
    (s.commitWhere sel).stop = s.stop ∧ (s.commitWhere sel).ports = s.ports ∧ (s.commitWhere sel).rnc = s.rnc ∧
    (s.commitWhere sel).fxc = s.fxc ∧ (s.commitWhere sel).tri = s.tri ∧ (s.commitWhere sel).beu = s.beu ∧
    (s.commitWhere sel).mse = s.mse ∧ (s.commitWhere sel).pru = s.pru ∧ (s.commitWhere sel).openChoices = s.openChoices ∧
    (∀ p', (s.commitWhere sel).port p' = s.port p') ∧ (∀ m', (s.commitWhere sel).run m' = s.run m') ∧
    (s.commitWhere sel).active = s.active ∧ (∀ m', (s.commitWhere sel).fix m' = s.fix m') ∧
    (∀ m', (s.commitWhere sel).bus m' = s.bus m') ∧ (s.commitWhere sel).clock = s.clock := by
  unfold State.commitWhere
  try dsimp only
  simp

@[simp] theorem State.softCommit_keeps (s : State) (n : Nest) (mask : Word) :
    (s.softCommit n mask).pending = s.pending ∧ (s.softCommit n mask).ms = s.ms ∧
    (s.softCommit n mask).resetCause = s.resetCause ∧ (s.softCommit n mask).stop = s.stop ∧
    (s.softCommit n mask).ports = s.ports ∧ (s.softCommit n mask).rnc = s.rnc ∧ (s.softCommit n mask).fxc = s.fxc ∧
    (s.softCommit n mask).tri = s.tri ∧ (s.softCommit n mask).beu = s.beu ∧ (s.softCommit n mask).mse = s.mse ∧
    (s.softCommit n mask).pru = s.pru ∧ (s.softCommit n mask).openChoices = s.openChoices ∧
    (∀ p', (s.softCommit n mask).port p' = s.port p') ∧ (∀ m', (s.softCommit n mask).run m' = s.run m') ∧
    (s.softCommit n mask).active = s.active ∧ (∀ m', (s.softCommit n mask).fix m' = s.fix m') ∧
    (∀ m', (s.softCommit n mask).bus m' = s.bus m') ∧ (s.softCommit n mask).clock = s.clock := by
  unfold State.softCommit
  try dsimp only
  (repeat' split) <;> simp

@[simp] theorem State.edgeToChannels_keeps (s : State) (l : Fin 4) (e : Edge) :
    (s.edgeToChannels l e).pending = s.pending ∧ (s.edgeToChannels l e).ms = s.ms ∧
    (s.edgeToChannels l e).resetCause = s.resetCause ∧ (s.edgeToChannels l e).stop = s.stop ∧
    (s.edgeToChannels l e).ports = s.ports ∧ (s.edgeToChannels l e).rnc = s.rnc ∧ (s.edgeToChannels l e).fxc = s.fxc ∧
    (s.edgeToChannels l e).tri = s.tri ∧ (s.edgeToChannels l e).beu = s.beu ∧ (s.edgeToChannels l e).mse = s.mse ∧
    (s.edgeToChannels l e).pru = s.pru ∧ (s.edgeToChannels l e).openChoices = s.openChoices ∧
    (∀ p', (s.edgeToChannels l e).port p' = s.port p') ∧ (∀ m', (s.edgeToChannels l e).run m' = s.run m') ∧
    (s.edgeToChannels l e).active = s.active ∧ (∀ m', (s.edgeToChannels l e).fix m' = s.fix m') ∧
    (∀ m', (s.edgeToChannels l e).bus m' = s.bus m') ∧ (s.edgeToChannels l e).clock = s.clock := by
  unfold State.edgeToChannels
  try dsimp only
  simp

@[simp] theorem State.paceCommit_keeps (s : State) (n : Nest) (t : Nat) :
    (s.paceCommit n t).pending = s.pending ∧ (s.paceCommit n t).ms = s.ms ∧ (s.paceCommit n t).resetCause = s.resetCause ∧
    (s.paceCommit n t).stop = s.stop ∧ (s.paceCommit n t).ports = s.ports ∧ (s.paceCommit n t).rnc = s.rnc ∧
    (s.paceCommit n t).fxc = s.fxc ∧ (s.paceCommit n t).tri = s.tri ∧ (s.paceCommit n t).beu = s.beu ∧
    (s.paceCommit n t).mse = s.mse ∧ (s.paceCommit n t).pru = s.pru ∧ (s.paceCommit n t).openChoices = s.openChoices ∧
    (∀ p', (s.paceCommit n t).port p' = s.port p') ∧ (∀ m', (s.paceCommit n t).run m' = s.run m') ∧
    (s.paceCommit n t).active = s.active ∧ (∀ m', (s.paceCommit n t).fix m' = s.fix m') ∧
    (∀ m', (s.paceCommit n t).bus m' = s.bus m') ∧ (s.paceCommit n t).clock = s.clock := by
  unfold State.paceCommit
  try dsimp only
  simp

@[simp] theorem State.paceOpened_keeps (s : State) (n : Nest) :
    (s.paceOpened n).pending = s.pending ∧ (s.paceOpened n).ms = s.ms ∧ (s.paceOpened n).resetCause = s.resetCause ∧
    (s.paceOpened n).stop = s.stop ∧ (s.paceOpened n).ports = s.ports ∧ (s.paceOpened n).rnc = s.rnc ∧
    (s.paceOpened n).fxc = s.fxc ∧ (s.paceOpened n).tri = s.tri ∧ (s.paceOpened n).beu = s.beu ∧
    (s.paceOpened n).mse = s.mse ∧ (s.paceOpened n).pru = s.pru ∧ (s.paceOpened n).openChoices = s.openChoices ∧
    (∀ p', (s.paceOpened n).port p' = s.port p') ∧ (∀ m', (s.paceOpened n).run m' = s.run m') ∧
    (s.paceOpened n).active = s.active ∧ (∀ m', (s.paceOpened n).fix m' = s.fix m') ∧
    (∀ m', (s.paceOpened n).bus m' = s.bus m') ∧ (s.paceOpened n).clock = s.clock := by
  unfold State.paceOpened
  try dsimp only
  (repeat' split) <;> simp

@[simp] theorem State.paceResumed_keeps (s : State) (n : Nest) :
    (s.paceResumed n).pending = s.pending ∧ (s.paceResumed n).ms = s.ms ∧ (s.paceResumed n).resetCause = s.resetCause ∧
    (s.paceResumed n).stop = s.stop ∧ (s.paceResumed n).ports = s.ports ∧ (s.paceResumed n).rnc = s.rnc ∧
    (s.paceResumed n).fxc = s.fxc ∧ (s.paceResumed n).tri = s.tri ∧ (s.paceResumed n).beu = s.beu ∧
    (s.paceResumed n).mse = s.mse ∧ (s.paceResumed n).pru = s.pru ∧ (s.paceResumed n).openChoices = s.openChoices ∧
    (∀ p', (s.paceResumed n).port p' = s.port p') ∧ (∀ m', (s.paceResumed n).run m' = s.run m') ∧
    (s.paceResumed n).active = s.active ∧ (∀ m', (s.paceResumed n).fix m' = s.fix m') ∧
    (∀ m', (s.paceResumed n).bus m' = s.bus m') ∧ (s.paceResumed n).clock = s.clock := by
  unfold State.paceResumed
  try dsimp only
  (repeat' split) <;> simp

@[simp] theorem State.paceHeld_keeps (s : State) (n : Nest) :
    (s.paceHeld n).pending = s.pending ∧ (s.paceHeld n).ms = s.ms ∧ (s.paceHeld n).resetCause = s.resetCause ∧
    (s.paceHeld n).stop = s.stop ∧ (s.paceHeld n).ports = s.ports ∧ (s.paceHeld n).rnc = s.rnc ∧ (s.paceHeld n).fxc = s.fxc ∧
    (s.paceHeld n).tri = s.tri ∧ (s.paceHeld n).beu = s.beu ∧ (s.paceHeld n).mse = s.mse ∧ (s.paceHeld n).pru = s.pru ∧
    (s.paceHeld n).openChoices = s.openChoices ∧ (∀ p', (s.paceHeld n).port p' = s.port p') ∧
    (∀ m', (s.paceHeld n).run m' = s.run m') ∧ (s.paceHeld n).active = s.active ∧ (∀ m', (s.paceHeld n).fix m' = s.fix m') ∧
    (∀ m', (s.paceHeld n).bus m' = s.bus m') ∧ (s.paceHeld n).clock = s.clock := by
  unfold State.paceHeld
  try dsimp only
  simp

@[simp] theorem State.paceClosed_keeps (s : State) (n : Nest) :
    (s.paceClosed n).pending = s.pending ∧ (s.paceClosed n).ms = s.ms ∧ (s.paceClosed n).resetCause = s.resetCause ∧
    (s.paceClosed n).stop = s.stop ∧ (s.paceClosed n).ports = s.ports ∧ (s.paceClosed n).rnc = s.rnc ∧
    (s.paceClosed n).fxc = s.fxc ∧ (s.paceClosed n).tri = s.tri ∧ (s.paceClosed n).beu = s.beu ∧
    (s.paceClosed n).mse = s.mse ∧ (s.paceClosed n).pru = s.pru ∧ (s.paceClosed n).openChoices = s.openChoices ∧
    (∀ p', (s.paceClosed n).port p' = s.port p') ∧ (∀ m', (s.paceClosed n).run m' = s.run m') ∧
    (s.paceClosed n).active = s.active ∧ (∀ m', (s.paceClosed n).fix m' = s.fix m') ∧
    (∀ m', (s.paceClosed n).bus m' = s.bus m') ∧ (s.paceClosed n).clock = s.clock := by
  unfold State.paceClosed
  try dsimp only
  simp

@[simp] theorem State.giveUpWhere_keeps (s : State) (n : Nest) (sel : Fin 16 → Bool) :
    (s.giveUpWhere n sel).pending = s.pending ∧ (s.giveUpWhere n sel).ms = s.ms ∧
    (s.giveUpWhere n sel).resetCause = s.resetCause ∧ (s.giveUpWhere n sel).stop = s.stop ∧
    (s.giveUpWhere n sel).rnc = s.rnc ∧ (s.giveUpWhere n sel).fxc = s.fxc ∧ (s.giveUpWhere n sel).tri = s.tri ∧
    (s.giveUpWhere n sel).beu = s.beu ∧ (s.giveUpWhere n sel).mse = s.mse ∧ (s.giveUpWhere n sel).pru = s.pru ∧
    (s.giveUpWhere n sel).openChoices = s.openChoices ∧ (∀ m', (s.giveUpWhere n sel).run m' = s.run m') ∧
    (s.giveUpWhere n sel).active = s.active ∧ (∀ m', (s.giveUpWhere n sel).fix m' = s.fix m') ∧
    (∀ m', (s.giveUpWhere n sel).bus m' = s.bus m') ∧ (s.giveUpWhere n sel).clock = s.clock := by
  unfold State.giveUpWhere
  try dsimp only
  simp

/-! ## Record -/

@[simp] theorem State.result_keeps (s : State) (id : WorkId) (x : WorkResult) :
    (s.result id x).pending = s.pending ∧ (s.result id x).ms = s.ms ∧ (s.result id x).resetCause = s.resetCause ∧
    (s.result id x).stop = s.stop ∧ (s.result id x).fxc = s.fxc ∧ (s.result id x).stu = s.stu ∧ (s.result id x).tri = s.tri ∧
    (s.result id x).beu = s.beu ∧ (s.result id x).mse = s.mse ∧ (s.result id x).pru = s.pru ∧
    (s.result id x).openChoices = s.openChoices ∧ (∀ m', (s.result id x).fix m' = s.fix m') ∧
    (∀ m', (s.result id x).bus m' = s.bus m') ∧ (∀ c', (s.result id x).chan c' = s.chan c') ∧ (s.result id x).clock = s.clock := by
  unfold State.result
  try dsimp only
  (repeat' split) <;> simp

@[simp] theorem State.progress_keeps (s : State) (id : WorkId) (k : Nat) :
    (s.progress id k).pending = s.pending ∧ (s.progress id k).ms = s.ms ∧ (s.progress id k).resetCause = s.resetCause ∧
    (s.progress id k).stop = s.stop ∧ (s.progress id k).ports = s.ports ∧ (s.progress id k).fxc = s.fxc ∧
    (s.progress id k).stu = s.stu ∧ (s.progress id k).tri = s.tri ∧ (s.progress id k).beu = s.beu ∧
    (s.progress id k).mse = s.mse ∧ (s.progress id k).pru = s.pru ∧ (s.progress id k).openChoices = s.openChoices ∧
    (∀ p', (s.progress id k).port p' = s.port p') ∧ (∀ m', (s.progress id k).fix m' = s.fix m') ∧
    (∀ m', (s.progress id k).bus m' = s.bus m') ∧ (∀ c', (s.progress id k).chan c' = s.chan c') ∧
    (s.progress id k).clock = s.clock := by
  unfold State.progress
  try dsimp only
  (repeat' split) <;> simp

@[simp] theorem State.countBusError_keeps (s : State) (n : Nest) :
    (s.countBusError n).pending = s.pending ∧ (s.countBusError n).ms = s.ms ∧ (s.countBusError n).resetCause = s.resetCause ∧
    (s.countBusError n).stop = s.stop ∧ (s.countBusError n).ports = s.ports ∧ (s.countBusError n).fxc = s.fxc ∧
    (s.countBusError n).stu = s.stu ∧ (s.countBusError n).tri = s.tri ∧ (s.countBusError n).beu = s.beu ∧
    (s.countBusError n).mse = s.mse ∧ (s.countBusError n).pru = s.pru ∧ (s.countBusError n).openChoices = s.openChoices ∧
    (∀ p', (s.countBusError n).port p' = s.port p') ∧ (∀ m', (s.countBusError n).fix m' = s.fix m') ∧
    (∀ m', (s.countBusError n).bus m' = s.bus m') ∧ (∀ c', (s.countBusError n).chan c' = s.chan c') ∧
    (s.countBusError n).clock = s.clock := by
  unfold State.countBusError
  try dsimp only
  (repeat' split) <;> simp

/-! ## Bus -/

@[simp] theorem State.setBcast_keeps (s : State) (n : Nest) (k : Fin 24) (b : Broadcast) :
    (s.setBcast n k b).pending = s.pending ∧ (s.setBcast n k b).ms = s.ms ∧ (s.setBcast n k b).resetCause = s.resetCause ∧
    (s.setBcast n k b).stop = s.stop ∧ (s.setBcast n k b).ports = s.ports ∧ (s.setBcast n k b).rnc = s.rnc ∧
    (s.setBcast n k b).fxc = s.fxc ∧ (s.setBcast n k b).stu = s.stu ∧ (s.setBcast n k b).tri = s.tri ∧
    (s.setBcast n k b).mse = s.mse ∧ (s.setBcast n k b).pru = s.pru ∧ (s.setBcast n k b).openChoices = s.openChoices ∧
    (∀ p', (s.setBcast n k b).port p' = s.port p') ∧ (∀ m', (s.setBcast n k b).run m' = s.run m') ∧
    (s.setBcast n k b).active = s.active ∧ (∀ m', (s.setBcast n k b).fix m' = s.fix m') ∧
    (∀ c', (s.setBcast n k b).chan c' = s.chan c') ∧ (s.setBcast n k b).clock = s.clock := by
  unfold State.setBcast
  try dsimp only
  simp

@[simp] theorem State.setReply_keeps (s : State) (n : Nest) (k : Fin 16) (r : Reply) :
    (s.setReply n k r).pending = s.pending ∧ (s.setReply n k r).ms = s.ms ∧ (s.setReply n k r).resetCause = s.resetCause ∧
    (s.setReply n k r).stop = s.stop ∧ (s.setReply n k r).ports = s.ports ∧ (s.setReply n k r).rnc = s.rnc ∧
    (s.setReply n k r).fxc = s.fxc ∧ (s.setReply n k r).stu = s.stu ∧ (s.setReply n k r).tri = s.tri ∧
    (s.setReply n k r).mse = s.mse ∧ (s.setReply n k r).pru = s.pru ∧ (s.setReply n k r).openChoices = s.openChoices ∧
    (∀ p', (s.setReply n k r).port p' = s.port p') ∧ (∀ m', (s.setReply n k r).run m' = s.run m') ∧
    (s.setReply n k r).active = s.active ∧ (∀ m', (s.setReply n k r).fix m' = s.fix m') ∧
    (∀ c', (s.setReply n k r).chan c' = s.chan c') ∧ (s.setReply n k r).clock = s.clock := by
  unfold State.setReply
  try dsimp only
  simp

@[simp] theorem State.setWatch_keeps (s : State) (n : Nest) (w : Fin 8) (x : Option Watch) :
    (s.setWatch n w x).pending = s.pending ∧ (s.setWatch n w x).ms = s.ms ∧ (s.setWatch n w x).resetCause = s.resetCause ∧
    (s.setWatch n w x).stop = s.stop ∧ (s.setWatch n w x).ports = s.ports ∧ (s.setWatch n w x).rnc = s.rnc ∧
    (s.setWatch n w x).fxc = s.fxc ∧ (s.setWatch n w x).stu = s.stu ∧ (s.setWatch n w x).tri = s.tri ∧
    (s.setWatch n w x).mse = s.mse ∧ (s.setWatch n w x).pru = s.pru ∧ (s.setWatch n w x).openChoices = s.openChoices ∧
    (∀ p', (s.setWatch n w x).port p' = s.port p') ∧ (∀ m', (s.setWatch n w x).run m' = s.run m') ∧
    (s.setWatch n w x).active = s.active ∧ (∀ m', (s.setWatch n w x).fix m' = s.fix m') ∧
    (∀ c', (s.setWatch n w x).chan c' = s.chan c') ∧ (s.setWatch n w x).clock = s.clock := by
  unfold State.setWatch
  try dsimp only
  simp

@[simp] theorem State.countReply_keeps (s : State) (n : Nest) (src : TxSource) :
    (s.countReply n src).pending = s.pending ∧ (s.countReply n src).ms = s.ms ∧
    (s.countReply n src).resetCause = s.resetCause ∧ (s.countReply n src).stop = s.stop ∧
    (s.countReply n src).ports = s.ports ∧ (s.countReply n src).rnc = s.rnc ∧ (s.countReply n src).fxc = s.fxc ∧
    (s.countReply n src).stu = s.stu ∧ (s.countReply n src).tri = s.tri ∧ (s.countReply n src).mse = s.mse ∧
    (s.countReply n src).pru = s.pru ∧ (s.countReply n src).openChoices = s.openChoices ∧
    (∀ p', (s.countReply n src).port p' = s.port p') ∧ (∀ m', (s.countReply n src).run m' = s.run m') ∧
    (s.countReply n src).active = s.active ∧ (∀ m', (s.countReply n src).fix m' = s.fix m') ∧
    (∀ c', (s.countReply n src).chan c' = s.chan c') ∧ (s.countReply n src).clock = s.clock := by
  unfold State.countReply
  try dsimp only
  (repeat' split) <;> simp

@[simp] theorem State.matchReply_keeps (s : State) (n : Nest) (f : Frame) :
    (s.matchReply n f).pending = s.pending ∧ (s.matchReply n f).ms = s.ms ∧ (s.matchReply n f).resetCause = s.resetCause ∧
    (s.matchReply n f).stop = s.stop ∧ (s.matchReply n f).ports = s.ports ∧ (s.matchReply n f).rnc = s.rnc ∧
    (s.matchReply n f).fxc = s.fxc ∧ (s.matchReply n f).stu = s.stu ∧ (s.matchReply n f).tri = s.tri ∧
    (s.matchReply n f).mse = s.mse ∧ (s.matchReply n f).pru = s.pru ∧ (s.matchReply n f).openChoices = s.openChoices ∧
    (∀ p', (s.matchReply n f).port p' = s.port p') ∧ (∀ m', (s.matchReply n f).run m' = s.run m') ∧
    (s.matchReply n f).active = s.active ∧ (∀ m', (s.matchReply n f).fix m' = s.fix m') ∧
    (∀ c', (s.matchReply n f).chan c' = s.chan c') ∧ (s.matchReply n f).clock = s.clock := by
  unfold State.matchReply
  try dsimp only
  (repeat' split) <;> simp

@[simp] theorem State.fallDue_keeps (s : State) (n : Nest) (k : Nat) (x : Scheduled) :
    (s.fallDue n k x).pending = s.pending ∧ (s.fallDue n k x).ms = s.ms ∧ (s.fallDue n k x).resetCause = s.resetCause ∧
    (s.fallDue n k x).stop = s.stop ∧ (s.fallDue n k x).ports = s.ports ∧ (s.fallDue n k x).rnc = s.rnc ∧
    (s.fallDue n k x).fxc = s.fxc ∧ (s.fallDue n k x).stu = s.stu ∧ (s.fallDue n k x).tri = s.tri ∧
    (s.fallDue n k x).mse = s.mse ∧ (s.fallDue n k x).pru = s.pru ∧ (s.fallDue n k x).openChoices = s.openChoices ∧
    (∀ p', (s.fallDue n k x).port p' = s.port p') ∧ (∀ m', (s.fallDue n k x).run m' = s.run m') ∧
    (s.fallDue n k x).active = s.active ∧ (∀ m', (s.fallDue n k x).fix m' = s.fix m') ∧
    (∀ c', (s.fallDue n k x).chan c' = s.chan c') ∧ (s.fallDue n k x).clock = s.clock := by
  unfold State.fallDue
  try dsimp only
  (repeat' split) <;> simp

@[simp] theorem State.fallDueNow_keeps (s : State) (n : Nest) (k : Nat) :
    (s.fallDueNow n k).pending = s.pending ∧ (s.fallDueNow n k).ms = s.ms ∧ (s.fallDueNow n k).resetCause = s.resetCause ∧
    (s.fallDueNow n k).stop = s.stop ∧ (s.fallDueNow n k).ports = s.ports ∧ (s.fallDueNow n k).rnc = s.rnc ∧
    (s.fallDueNow n k).fxc = s.fxc ∧ (s.fallDueNow n k).stu = s.stu ∧ (s.fallDueNow n k).tri = s.tri ∧
    (s.fallDueNow n k).mse = s.mse ∧ (s.fallDueNow n k).pru = s.pru ∧ (s.fallDueNow n k).openChoices = s.openChoices ∧
    (∀ p', (s.fallDueNow n k).port p' = s.port p') ∧ (∀ m', (s.fallDueNow n k).run m' = s.run m') ∧
    (s.fallDueNow n k).active = s.active ∧ (∀ m', (s.fallDueNow n k).fix m' = s.fix m') ∧
    (∀ c', (s.fallDueNow n k).chan c' = s.chan c') ∧ (s.fallDueNow n k).clock = s.clock := by
  unfold State.fallDueNow
  try dsimp only
  (repeat' split) <;> simp

@[simp] theorem State.mapWatches_keeps (s : State) (n : Nest) (f : Watch → Option Watch) :
    (s.mapWatches n f).pending = s.pending ∧ (s.mapWatches n f).ms = s.ms ∧ (s.mapWatches n f).resetCause = s.resetCause ∧
    (s.mapWatches n f).stop = s.stop ∧ (s.mapWatches n f).ports = s.ports ∧ (s.mapWatches n f).rnc = s.rnc ∧
    (s.mapWatches n f).fxc = s.fxc ∧ (s.mapWatches n f).stu = s.stu ∧ (s.mapWatches n f).tri = s.tri ∧
    (s.mapWatches n f).mse = s.mse ∧ (s.mapWatches n f).pru = s.pru ∧ (s.mapWatches n f).openChoices = s.openChoices ∧
    (∀ p', (s.mapWatches n f).port p' = s.port p') ∧ (∀ m', (s.mapWatches n f).run m' = s.run m') ∧
    (s.mapWatches n f).active = s.active ∧ (∀ m', (s.mapWatches n f).fix m' = s.fix m') ∧
    (∀ c', (s.mapWatches n f).chan c' = s.chan c') ∧ (s.mapWatches n f).clock = s.clock := by
  unfold State.mapWatches
  try dsimp only
  simp

@[simp] theorem State.beuBecameHeld_keeps (s : State) (n : Nest) :
    (s.beuBecameHeld n).pending = s.pending ∧ (s.beuBecameHeld n).ms = s.ms ∧ (s.beuBecameHeld n).resetCause = s.resetCause ∧
    (s.beuBecameHeld n).stop = s.stop ∧ (s.beuBecameHeld n).ports = s.ports ∧ (s.beuBecameHeld n).rnc = s.rnc ∧
    (s.beuBecameHeld n).fxc = s.fxc ∧ (s.beuBecameHeld n).stu = s.stu ∧ (s.beuBecameHeld n).tri = s.tri ∧
    (s.beuBecameHeld n).mse = s.mse ∧ (s.beuBecameHeld n).pru = s.pru ∧ (s.beuBecameHeld n).openChoices = s.openChoices ∧
    (∀ p', (s.beuBecameHeld n).port p' = s.port p') ∧ (∀ m', (s.beuBecameHeld n).run m' = s.run m') ∧
    (s.beuBecameHeld n).active = s.active ∧ (∀ m', (s.beuBecameHeld n).fix m' = s.fix m') ∧
    (∀ c', (s.beuBecameHeld n).chan c' = s.chan c') ∧ (s.beuBecameHeld n).clock = s.clock := by
  unfold State.beuBecameHeld
  try dsimp only
  simp

@[simp] theorem State.withdrawWatches_keeps (s : State) (n : Nest) (c : WorkId → Bool) :
    (s.withdrawWatches n c).pending = s.pending ∧ (s.withdrawWatches n c).ms = s.ms ∧
    (s.withdrawWatches n c).resetCause = s.resetCause ∧ (s.withdrawWatches n c).stop = s.stop ∧
    (s.withdrawWatches n c).ports = s.ports ∧ (s.withdrawWatches n c).rnc = s.rnc ∧ (s.withdrawWatches n c).fxc = s.fxc ∧
    (s.withdrawWatches n c).stu = s.stu ∧ (s.withdrawWatches n c).tri = s.tri ∧ (s.withdrawWatches n c).mse = s.mse ∧
    (s.withdrawWatches n c).pru = s.pru ∧ (s.withdrawWatches n c).openChoices = s.openChoices ∧
    (∀ p', (s.withdrawWatches n c).port p' = s.port p') ∧ (∀ m', (s.withdrawWatches n c).run m' = s.run m') ∧
    (s.withdrawWatches n c).active = s.active ∧ (∀ m', (s.withdrawWatches n c).fix m' = s.fix m') ∧
    (∀ c', (s.withdrawWatches n c).chan c' = s.chan c') ∧ (s.withdrawWatches n c).clock = s.clock := by
  unfold State.withdrawWatches
  try dsimp only
  simp

@[simp] theorem State.attemptFailed_keeps (s : State) (n : Nest) (f : TxFrame) (rest : List TxFrame) :
    (s.attemptFailed n f rest).pending = s.pending ∧ (s.attemptFailed n f rest).ms = s.ms ∧
    (s.attemptFailed n f rest).resetCause = s.resetCause ∧ (s.attemptFailed n f rest).stop = s.stop ∧
    (s.attemptFailed n f rest).rnc = s.rnc ∧ (s.attemptFailed n f rest).fxc = s.fxc ∧
    (s.attemptFailed n f rest).stu = s.stu ∧ (s.attemptFailed n f rest).tri = s.tri ∧
    (s.attemptFailed n f rest).mse = s.mse ∧ (s.attemptFailed n f rest).pru = s.pru ∧
    (s.attemptFailed n f rest).openChoices = s.openChoices ∧ (∀ m', (s.attemptFailed n f rest).run m' = s.run m') ∧
    (s.attemptFailed n f rest).active = s.active ∧ (∀ m', (s.attemptFailed n f rest).fix m' = s.fix m') ∧
    (∀ c', (s.attemptFailed n f rest).chan c' = s.chan c') ∧ (s.attemptFailed n f rest).clock = s.clock := by
  unfold State.attemptFailed
  try dsimp only
  (repeat' split) <;> simp

@[simp] theorem State.restartCheck_keeps (s : State) (n : Nest) (f : Frame) :
    (s.restartCheck n f).pending = s.pending ∧ (s.restartCheck n f).ms = s.ms ∧
    (s.restartCheck n f).resetCause = s.resetCause ∧ (s.restartCheck n f).stop = s.stop ∧ (s.restartCheck n f).rnc = s.rnc ∧
    (s.restartCheck n f).fxc = s.fxc ∧ (s.restartCheck n f).stu = s.stu ∧ (s.restartCheck n f).tri = s.tri ∧
    (s.restartCheck n f).mse = s.mse ∧ (s.restartCheck n f).pru = s.pru ∧ (s.restartCheck n f).openChoices = s.openChoices ∧
    (∀ m', (s.restartCheck n f).run m' = s.run m') ∧ (s.restartCheck n f).active = s.active ∧
    (∀ m', (s.restartCheck n f).fix m' = s.fix m') ∧ (∀ c', (s.restartCheck n f).chan c' = s.chan c') ∧
    (s.restartCheck n f).clock = s.clock := by
  unfold State.restartCheck
  try dsimp only
  (repeat' split) <;> simp

@[simp] theorem State.endWatch_keeps (s : State) (n : Nest) (i : Fin 8) (c : Watch → Bool) (x : Watch → WorkResult) :
    (s.endWatch n i c x).pending = s.pending ∧ (s.endWatch n i c x).ms = s.ms ∧
    (s.endWatch n i c x).resetCause = s.resetCause ∧ (s.endWatch n i c x).stop = s.stop ∧ (s.endWatch n i c x).fxc = s.fxc ∧
    (s.endWatch n i c x).stu = s.stu ∧ (s.endWatch n i c x).tri = s.tri ∧ (s.endWatch n i c x).mse = s.mse ∧
    (s.endWatch n i c x).pru = s.pru ∧ (s.endWatch n i c x).openChoices = s.openChoices ∧
    (∀ m', (s.endWatch n i c x).fix m' = s.fix m') ∧ (∀ c', (s.endWatch n i c x).chan c' = s.chan c') ∧
    (s.endWatch n i c x).clock = s.clock := by
  unfold State.endWatch
  try dsimp only
  (repeat' split) <;> simp

@[simp] theorem State.endWatches_keeps (s : State) (n : Nest) (c : Watch → Bool) (x : Watch → WorkResult) :
    (s.endWatches n c x).pending = s.pending ∧ (s.endWatches n c x).ms = s.ms ∧
    (s.endWatches n c x).resetCause = s.resetCause ∧ (s.endWatches n c x).stop = s.stop ∧ (s.endWatches n c x).fxc = s.fxc ∧
    (s.endWatches n c x).stu = s.stu ∧ (s.endWatches n c x).tri = s.tri ∧ (s.endWatches n c x).mse = s.mse ∧
    (s.endWatches n c x).pru = s.pru ∧ (s.endWatches n c x).openChoices = s.openChoices ∧
    (∀ m', (s.endWatches n c x).fix m' = s.fix m') ∧ (∀ c', (s.endWatches n c x).chan c' = s.chan c') ∧
    (s.endWatches n c x).clock = s.clock := by
  unfold State.endWatches
  generalize List.finRange 8 = l
  induction l generalizing s with
  | nil => simp
  | cons i l ih => simpa using ih (s.endWatch n i c x)

@[simp] theorem State.matchWatches_keeps (s : State) (n : Nest) (f : Frame) :
    (s.matchWatches n f).pending = s.pending ∧ (s.matchWatches n f).ms = s.ms ∧
    (s.matchWatches n f).resetCause = s.resetCause ∧ (s.matchWatches n f).stop = s.stop ∧ (s.matchWatches n f).fxc = s.fxc ∧
    (s.matchWatches n f).stu = s.stu ∧ (s.matchWatches n f).tri = s.tri ∧ (s.matchWatches n f).mse = s.mse ∧
    (s.matchWatches n f).pru = s.pru ∧ (s.matchWatches n f).openChoices = s.openChoices ∧
    (∀ m', (s.matchWatches n f).fix m' = s.fix m') ∧ (∀ c', (s.matchWatches n f).chan c' = s.chan c') ∧
    (s.matchWatches n f).clock = s.clock := by
  unfold State.matchWatches
  try dsimp only
  (repeat' split) <;> simp

@[simp] theorem State.beuBecameActive_keeps (s : State) (n : Nest) :
    (s.beuBecameActive n).pending = s.pending ∧ (s.beuBecameActive n).ms = s.ms ∧
    (s.beuBecameActive n).resetCause = s.resetCause ∧ (s.beuBecameActive n).stop = s.stop ∧
    (s.beuBecameActive n).fxc = s.fxc ∧ (s.beuBecameActive n).stu = s.stu ∧ (s.beuBecameActive n).tri = s.tri ∧
    (s.beuBecameActive n).mse = s.mse ∧ (s.beuBecameActive n).pru = s.pru ∧
    (s.beuBecameActive n).openChoices = s.openChoices ∧ (∀ m', (s.beuBecameActive n).fix m' = s.fix m') ∧
    (∀ c', (s.beuBecameActive n).chan c' = s.chan c') ∧ (s.beuBecameActive n).clock = s.clock := by
  unfold State.beuBecameActive
  try dsimp only
  simp

@[simp] theorem State.goodArrival_keeps (s : State) (n : Nest) (f : Frame) :
    (s.goodArrival n f).pending = s.pending ∧ (s.goodArrival n f).ms = s.ms ∧ (s.goodArrival n f).resetCause = s.resetCause ∧
    (s.goodArrival n f).stop = s.stop ∧ (s.goodArrival n f).fxc = s.fxc ∧ (s.goodArrival n f).stu = s.stu ∧
    (s.goodArrival n f).tri = s.tri ∧ (s.goodArrival n f).mse = s.mse ∧ (s.goodArrival n f).pru = s.pru ∧
    (s.goodArrival n f).openChoices = s.openChoices ∧ (∀ m', (s.goodArrival n f).fix m' = s.fix m') ∧
    (∀ c', (s.goodArrival n f).chan c' = s.chan c') ∧ (s.goodArrival n f).clock = s.clock := by
  unfold State.goodArrival
  try dsimp only
  (repeat' split) <;> simp

/-! ## Measurement -/

@[simp] theorem State.setQueue_keeps (s : State) (q : List Request) :
    (s.setQueue q).pending = s.pending ∧ (s.setQueue q).ms = s.ms ∧ (s.setQueue q).resetCause = s.resetCause ∧
    (s.setQueue q).stop = s.stop ∧ (s.setQueue q).ports = s.ports ∧ (s.setQueue q).rnc = s.rnc ∧ (s.setQueue q).fxc = s.fxc ∧
    (s.setQueue q).stu = s.stu ∧ (s.setQueue q).tri = s.tri ∧ (s.setQueue q).beu = s.beu ∧ (s.setQueue q).pru = s.pru ∧
    (s.setQueue q).openChoices = s.openChoices ∧ (∀ p', (s.setQueue q).port p' = s.port p') ∧
    (∀ m', (s.setQueue q).run m' = s.run m') ∧ (s.setQueue q).active = s.active ∧ (∀ m', (s.setQueue q).fix m' = s.fix m') ∧
    (∀ m', (s.setQueue q).bus m' = s.bus m') ∧ (∀ c', (s.setQueue q).chan c' = s.chan c') ∧ (s.setQueue q).clock = s.clock := by
  unfold State.setQueue
  try dsimp only
  simp

@[simp] theorem State.setEngine_keeps (s : State) (e : Engine) :
    (s.setEngine e).pending = s.pending ∧ (s.setEngine e).ms = s.ms ∧ (s.setEngine e).resetCause = s.resetCause ∧
    (s.setEngine e).stop = s.stop ∧ (s.setEngine e).ports = s.ports ∧ (s.setEngine e).rnc = s.rnc ∧
    (s.setEngine e).fxc = s.fxc ∧ (s.setEngine e).stu = s.stu ∧ (s.setEngine e).tri = s.tri ∧ (s.setEngine e).beu = s.beu ∧
    (s.setEngine e).pru = s.pru ∧ (s.setEngine e).openChoices = s.openChoices ∧ (∀ p', (s.setEngine e).port p' = s.port p') ∧
    (∀ m', (s.setEngine e).run m' = s.run m') ∧ (s.setEngine e).active = s.active ∧
    (∀ m', (s.setEngine e).fix m' = s.fix m') ∧ (∀ m', (s.setEngine e).bus m' = s.bus m') ∧
    (∀ c', (s.setEngine e).chan c' = s.chan c') ∧ (s.setEngine e).clock = s.clock := by
  unfold State.setEngine
  try dsimp only
  simp

@[simp] theorem State.startEngine_keeps (s : State) (r : Request) :
    (s.startEngine r).pending = s.pending ∧ (s.startEngine r).ms = s.ms ∧ (s.startEngine r).resetCause = s.resetCause ∧
    (s.startEngine r).stop = s.stop ∧ (s.startEngine r).ports = s.ports ∧ (s.startEngine r).rnc = s.rnc ∧
    (s.startEngine r).fxc = s.fxc ∧ (s.startEngine r).stu = s.stu ∧ (s.startEngine r).tri = s.tri ∧
    (s.startEngine r).beu = s.beu ∧ (s.startEngine r).pru = s.pru ∧ (s.startEngine r).openChoices = s.openChoices ∧
    (∀ p', (s.startEngine r).port p' = s.port p') ∧ (∀ m', (s.startEngine r).run m' = s.run m') ∧
    (s.startEngine r).active = s.active ∧ (∀ m', (s.startEngine r).fix m' = s.fix m') ∧
    (∀ m', (s.startEngine r).bus m' = s.bus m') ∧ (∀ c', (s.startEngine r).chan c' = s.chan c') ∧
    (s.startEngine r).clock = s.clock := by
  unfold State.startEngine
  try dsimp only
  (repeat' split) <;> simp

@[simp] theorem State.chooseRequest_keeps (s : State)  :
    (s.chooseRequest).pending = s.pending ∧ (s.chooseRequest).ms = s.ms ∧ (s.chooseRequest).resetCause = s.resetCause ∧
    (s.chooseRequest).stop = s.stop ∧ (s.chooseRequest).ports = s.ports ∧ (s.chooseRequest).rnc = s.rnc ∧
    (s.chooseRequest).fxc = s.fxc ∧ (s.chooseRequest).stu = s.stu ∧ (s.chooseRequest).tri = s.tri ∧
    (s.chooseRequest).beu = s.beu ∧ (s.chooseRequest).pru = s.pru ∧ (s.chooseRequest).openChoices = s.openChoices ∧
    (∀ p', (s.chooseRequest).port p' = s.port p') ∧ (∀ m', (s.chooseRequest).run m' = s.run m') ∧
    (s.chooseRequest).active = s.active ∧ (∀ m', (s.chooseRequest).fix m' = s.fix m') ∧
    (∀ m', (s.chooseRequest).bus m' = s.bus m') ∧ (∀ c', (s.chooseRequest).chan c' = s.chan c') ∧
    (s.chooseRequest).clock = s.clock := by
  unfold State.chooseRequest
  try dsimp only
  (repeat' split) <;> simp

@[simp] theorem State.stopEngineIf_keeps (s : State) (c : WorkId → Bool) :
    (s.stopEngineIf c).pending = s.pending ∧ (s.stopEngineIf c).ms = s.ms ∧ (s.stopEngineIf c).resetCause = s.resetCause ∧
    (s.stopEngineIf c).stop = s.stop ∧ (s.stopEngineIf c).ports = s.ports ∧ (s.stopEngineIf c).rnc = s.rnc ∧
    (s.stopEngineIf c).fxc = s.fxc ∧ (s.stopEngineIf c).stu = s.stu ∧ (s.stopEngineIf c).tri = s.tri ∧
    (s.stopEngineIf c).beu = s.beu ∧ (s.stopEngineIf c).pru = s.pru ∧ (s.stopEngineIf c).openChoices = s.openChoices ∧
    (∀ p', (s.stopEngineIf c).port p' = s.port p') ∧ (∀ m', (s.stopEngineIf c).run m' = s.run m') ∧
    (s.stopEngineIf c).active = s.active ∧ (∀ m', (s.stopEngineIf c).fix m' = s.fix m') ∧
    (∀ m', (s.stopEngineIf c).bus m' = s.bus m') ∧ (∀ c', (s.stopEngineIf c).chan c' = s.chan c') ∧
    (s.stopEngineIf c).clock = s.clock := by
  unfold State.stopEngineIf
  try dsimp only
  (repeat' split) <;> simp

@[simp] theorem State.withdrawRequests_keeps (s : State) (c : WorkId → Bool) :
    (s.withdrawRequests c).pending = s.pending ∧ (s.withdrawRequests c).ms = s.ms ∧
    (s.withdrawRequests c).resetCause = s.resetCause ∧ (s.withdrawRequests c).stop = s.stop ∧
    (s.withdrawRequests c).ports = s.ports ∧ (s.withdrawRequests c).rnc = s.rnc ∧ (s.withdrawRequests c).fxc = s.fxc ∧
    (s.withdrawRequests c).stu = s.stu ∧ (s.withdrawRequests c).tri = s.tri ∧ (s.withdrawRequests c).beu = s.beu ∧
    (s.withdrawRequests c).pru = s.pru ∧ (s.withdrawRequests c).openChoices = s.openChoices ∧
    (∀ p', (s.withdrawRequests c).port p' = s.port p') ∧ (∀ m', (s.withdrawRequests c).run m' = s.run m') ∧
    (s.withdrawRequests c).active = s.active ∧ (∀ m', (s.withdrawRequests c).fix m' = s.fix m') ∧
    (∀ m', (s.withdrawRequests c).bus m' = s.bus m') ∧ (∀ c', (s.withdrawRequests c).chan c' = s.chan c') ∧
    (s.withdrawRequests c).clock = s.clock := by
  unfold State.withdrawRequests
  try dsimp only
  simp

@[simp] theorem State.mseBecameHeld_keeps (s : State) (n : Nest) :
    (s.mseBecameHeld n).pending = s.pending ∧ (s.mseBecameHeld n).ms = s.ms ∧ (s.mseBecameHeld n).resetCause = s.resetCause ∧
    (s.mseBecameHeld n).stop = s.stop ∧ (s.mseBecameHeld n).ports = s.ports ∧ (s.mseBecameHeld n).rnc = s.rnc ∧
    (s.mseBecameHeld n).fxc = s.fxc ∧ (s.mseBecameHeld n).stu = s.stu ∧ (s.mseBecameHeld n).tri = s.tri ∧
    (s.mseBecameHeld n).beu = s.beu ∧ (s.mseBecameHeld n).pru = s.pru ∧ (s.mseBecameHeld n).openChoices = s.openChoices ∧
    (∀ p', (s.mseBecameHeld n).port p' = s.port p') ∧ (∀ m', (s.mseBecameHeld n).run m' = s.run m') ∧
    (s.mseBecameHeld n).active = s.active ∧ (∀ m', (s.mseBecameHeld n).fix m' = s.fix m') ∧
    (∀ m', (s.mseBecameHeld n).bus m' = s.bus m') ∧ (∀ c', (s.mseBecameHeld n).chan c' = s.chan c') ∧
    (s.mseBecameHeld n).clock = s.clock := by
  unfold State.mseBecameHeld
  try dsimp only
  simp

@[simp] theorem State.mseClosed_keeps (s : State) (n : Nest) :
    (s.mseClosed n).pending = s.pending ∧ (s.mseClosed n).ms = s.ms ∧ (s.mseClosed n).resetCause = s.resetCause ∧
    (s.mseClosed n).stop = s.stop ∧ (s.mseClosed n).ports = s.ports ∧ (s.mseClosed n).rnc = s.rnc ∧
    (s.mseClosed n).fxc = s.fxc ∧ (s.mseClosed n).stu = s.stu ∧ (s.mseClosed n).tri = s.tri ∧ (s.mseClosed n).beu = s.beu ∧
    (s.mseClosed n).pru = s.pru ∧ (s.mseClosed n).openChoices = s.openChoices ∧ (∀ p', (s.mseClosed n).port p' = s.port p') ∧
    (∀ m', (s.mseClosed n).run m' = s.run m') ∧ (s.mseClosed n).active = s.active ∧
    (∀ m', (s.mseClosed n).fix m' = s.fix m') ∧ (∀ m', (s.mseClosed n).bus m' = s.bus m') ∧
    (∀ c', (s.mseClosed n).chan c' = s.chan c') ∧ (s.mseClosed n).clock = s.clock := by
  unfold State.mseClosed
  try dsimp only
  simp

@[simp] theorem State.setInput_keeps (s : State) (n : Nest) (k : Fin 12) (mv : Int) :
    (s.setInput n k mv).pending = s.pending ∧ (s.setInput n k mv).ms = s.ms ∧ (s.setInput n k mv).resetCause = s.resetCause ∧
    (s.setInput n k mv).stop = s.stop ∧ (s.setInput n k mv).ports = s.ports ∧ (s.setInput n k mv).rnc = s.rnc ∧
    (s.setInput n k mv).fxc = s.fxc ∧ (s.setInput n k mv).stu = s.stu ∧ (s.setInput n k mv).tri = s.tri ∧
    (s.setInput n k mv).beu = s.beu ∧ (s.setInput n k mv).pru = s.pru ∧ (s.setInput n k mv).openChoices = s.openChoices ∧
    (∀ p', (s.setInput n k mv).port p' = s.port p') ∧ (∀ m', (s.setInput n k mv).run m' = s.run m') ∧
    (s.setInput n k mv).active = s.active ∧ (∀ m', (s.setInput n k mv).fix m' = s.fix m') ∧
    (∀ m', (s.setInput n k mv).bus m' = s.bus m') ∧ (∀ c', (s.setInput n k mv).chan c' = s.chan c') ∧
    (s.setInput n k mv).clock = s.clock := by
  unfold State.setInput
  try dsimp only
  simp

@[simp] theorem State.noteReading_keeps (s : State) (r : Request) (x : Int) :
    (s.noteReading r x).pending = s.pending ∧ (s.noteReading r x).ms = s.ms ∧ (s.noteReading r x).resetCause = s.resetCause ∧
    (s.noteReading r x).stop = s.stop ∧ (s.noteReading r x).ports = s.ports ∧ (s.noteReading r x).rnc = s.rnc ∧
    (s.noteReading r x).fxc = s.fxc ∧ (s.noteReading r x).stu = s.stu ∧ (s.noteReading r x).tri = s.tri ∧
    (s.noteReading r x).beu = s.beu ∧ (s.noteReading r x).pru = s.pru ∧ (s.noteReading r x).openChoices = s.openChoices ∧
    (∀ p', (s.noteReading r x).port p' = s.port p') ∧ (∀ m', (s.noteReading r x).run m' = s.run m') ∧
    (s.noteReading r x).active = s.active ∧ (∀ m', (s.noteReading r x).fix m' = s.fix m') ∧
    (∀ m', (s.noteReading r x).bus m' = s.bus m') ∧ (∀ c', (s.noteReading r x).chan c' = s.chan c') ∧
    (s.noteReading r x).clock = s.clock := by
  unfold State.noteReading
  try dsimp only
  (repeat' split) <;> simp

@[simp] theorem State.retryRequest_keeps (s : State) (r : Request) :
    (s.retryRequest r).pending = s.pending ∧ (s.retryRequest r).ms = s.ms ∧ (s.retryRequest r).resetCause = s.resetCause ∧
    (s.retryRequest r).stop = s.stop ∧ (s.retryRequest r).ports = s.ports ∧ (s.retryRequest r).fxc = s.fxc ∧
    (s.retryRequest r).stu = s.stu ∧ (s.retryRequest r).tri = s.tri ∧ (s.retryRequest r).beu = s.beu ∧
    (s.retryRequest r).pru = s.pru ∧ (s.retryRequest r).openChoices = s.openChoices ∧
    (∀ p', (s.retryRequest r).port p' = s.port p') ∧ (∀ m', (s.retryRequest r).fix m' = s.fix m') ∧
    (∀ m', (s.retryRequest r).bus m' = s.bus m') ∧ (∀ c', (s.retryRequest r).chan c' = s.chan c') ∧
    (s.retryRequest r).clock = s.clock := by
  unfold State.retryRequest
  try dsimp only
  simp

@[simp] theorem State.endRequests_keeps (s : State) (l : List Request) (d : EntryDetail) :
    (s.endRequests l d).pending = s.pending ∧ (s.endRequests l d).ms = s.ms ∧ (s.endRequests l d).resetCause = s.resetCause ∧
    (s.endRequests l d).stop = s.stop ∧ (s.endRequests l d).fxc = s.fxc ∧ (s.endRequests l d).stu = s.stu ∧
    (s.endRequests l d).tri = s.tri ∧ (s.endRequests l d).beu = s.beu ∧ (s.endRequests l d).mse = s.mse ∧
    (s.endRequests l d).pru = s.pru ∧ (s.endRequests l d).openChoices = s.openChoices ∧
    (∀ m', (s.endRequests l d).fix m' = s.fix m') ∧ (∀ m', (s.endRequests l d).bus m' = s.bus m') ∧
    (∀ c', (s.endRequests l d).chan c' = s.chan c') ∧ (s.endRequests l d).clock = s.clock := by
  induction l generalizing s with
  | nil => simp [State.endRequests]
  | cons x l ih =>
    have h := ih (s.result x.id (x.noResult d))
    simpa [State.endRequests] using h

@[simp] theorem State.finishRequest_keeps (s : State) (r : Request) (x : EntryOutcome × EntryDetail) (v : Int) :
    (s.finishRequest r x v).pending = s.pending ∧ (s.finishRequest r x v).ms = s.ms ∧
    (s.finishRequest r x v).resetCause = s.resetCause ∧ (s.finishRequest r x v).stop = s.stop ∧
    (s.finishRequest r x v).fxc = s.fxc ∧ (s.finishRequest r x v).stu = s.stu ∧ (s.finishRequest r x v).tri = s.tri ∧
    (s.finishRequest r x v).beu = s.beu ∧ (s.finishRequest r x v).pru = s.pru ∧
    (s.finishRequest r x v).openChoices = s.openChoices ∧ (∀ m', (s.finishRequest r x v).fix m' = s.fix m') ∧
    (∀ m', (s.finishRequest r x v).bus m' = s.bus m') ∧ (∀ c', (s.finishRequest r x v).chan c' = s.chan c') ∧
    (s.finishRequest r x v).clock = s.clock := by
  unfold State.finishRequest
  try dsimp only
  simp

@[simp] theorem State.inputLost_keeps (s : State) (n : Nest) (k : Fin 12) :
    (s.inputLost n k).pending = s.pending ∧ (s.inputLost n k).ms = s.ms ∧ (s.inputLost n k).resetCause = s.resetCause ∧
    (s.inputLost n k).stop = s.stop ∧ (s.inputLost n k).fxc = s.fxc ∧ (s.inputLost n k).stu = s.stu ∧
    (s.inputLost n k).tri = s.tri ∧ (s.inputLost n k).beu = s.beu ∧ (s.inputLost n k).pru = s.pru ∧
    (s.inputLost n k).openChoices = s.openChoices ∧ (∀ m', (s.inputLost n k).fix m' = s.fix m') ∧
    (∀ m', (s.inputLost n k).bus m' = s.bus m') ∧ (∀ c', (s.inputLost n k).chan c' = s.chan c') ∧
    (s.inputLost n k).clock = s.clock := by
  unfold State.inputLost
  try dsimp only
  simp

@[simp] theorem State.mseBecameActive_keeps (s : State) (n : Nest) :
    (s.mseBecameActive n).pending = s.pending ∧ (s.mseBecameActive n).ms = s.ms ∧
    (s.mseBecameActive n).resetCause = s.resetCause ∧ (s.mseBecameActive n).stop = s.stop ∧
    (s.mseBecameActive n).fxc = s.fxc ∧ (s.mseBecameActive n).stu = s.stu ∧ (s.mseBecameActive n).tri = s.tri ∧
    (s.mseBecameActive n).beu = s.beu ∧ (s.mseBecameActive n).pru = s.pru ∧
    (s.mseBecameActive n).openChoices = s.openChoices ∧ (∀ m', (s.mseBecameActive n).fix m' = s.fix m') ∧
    (∀ m', (s.mseBecameActive n).bus m' = s.bus m') ∧ (∀ c', (s.mseBecameActive n).chan c' = s.chan c') ∧
    (s.mseBecameActive n).clock = s.clock := by
  unfold State.mseBecameActive
  try dsimp only
  simp

/-! ## Prompts -/

@[simp] theorem State.setPrompts_keeps (s : State) (q : List Prompt) :
    (s.setPrompts q).pending = s.pending ∧ (s.setPrompts q).ms = s.ms ∧ (s.setPrompts q).resetCause = s.resetCause ∧
    (s.setPrompts q).stop = s.stop ∧ (s.setPrompts q).ports = s.ports ∧ (s.setPrompts q).rnc = s.rnc ∧
    (s.setPrompts q).fxc = s.fxc ∧ (s.setPrompts q).stu = s.stu ∧ (s.setPrompts q).tri = s.tri ∧
    (s.setPrompts q).beu = s.beu ∧ (s.setPrompts q).mse = s.mse ∧ (s.setPrompts q).openChoices = s.openChoices ∧
    (∀ p', (s.setPrompts q).port p' = s.port p') ∧ (∀ m', (s.setPrompts q).run m' = s.run m') ∧
    (s.setPrompts q).active = s.active ∧ (∀ m', (s.setPrompts q).fix m' = s.fix m') ∧
    (∀ m', (s.setPrompts q).bus m' = s.bus m') ∧ (∀ c', (s.setPrompts q).chan c' = s.chan c') ∧
    (s.setPrompts q).clock = s.clock := by
  unfold State.setPrompts
  try dsimp only
  simp

@[simp] theorem State.setSlot_keeps (s : State) (n : Nest) (x : Option SysPrompt) :
    (s.setSlot n x).pending = s.pending ∧ (s.setSlot n x).ms = s.ms ∧ (s.setSlot n x).resetCause = s.resetCause ∧
    (s.setSlot n x).stop = s.stop ∧ (s.setSlot n x).ports = s.ports ∧ (s.setSlot n x).rnc = s.rnc ∧
    (s.setSlot n x).fxc = s.fxc ∧ (s.setSlot n x).stu = s.stu ∧ (s.setSlot n x).tri = s.tri ∧ (s.setSlot n x).beu = s.beu ∧
    (s.setSlot n x).mse = s.mse ∧ (s.setSlot n x).openChoices = s.openChoices ∧ (∀ p', (s.setSlot n x).port p' = s.port p') ∧
    (∀ m', (s.setSlot n x).run m' = s.run m') ∧ (s.setSlot n x).active = s.active ∧
    (∀ m', (s.setSlot n x).fix m' = s.fix m') ∧ (∀ m', (s.setSlot n x).bus m' = s.bus m') ∧
    (∀ c', (s.setSlot n x).chan c' = s.chan c') ∧ (s.setSlot n x).clock = s.clock := by
  unfold State.setSlot
  try dsimp only
  simp

@[simp] theorem State.changePrompt_keeps (s : State) (id : WorkId) (f : Prompt → Prompt) :
    (s.changePrompt id f).pending = s.pending ∧ (s.changePrompt id f).ms = s.ms ∧
    (s.changePrompt id f).resetCause = s.resetCause ∧ (s.changePrompt id f).stop = s.stop ∧
    (s.changePrompt id f).ports = s.ports ∧ (s.changePrompt id f).rnc = s.rnc ∧ (s.changePrompt id f).fxc = s.fxc ∧
    (s.changePrompt id f).stu = s.stu ∧ (s.changePrompt id f).tri = s.tri ∧ (s.changePrompt id f).beu = s.beu ∧
    (s.changePrompt id f).mse = s.mse ∧ (s.changePrompt id f).openChoices = s.openChoices ∧
    (∀ p', (s.changePrompt id f).port p' = s.port p') ∧ (∀ m', (s.changePrompt id f).run m' = s.run m') ∧
    (s.changePrompt id f).active = s.active ∧ (∀ m', (s.changePrompt id f).fix m' = s.fix m') ∧
    (∀ m', (s.changePrompt id f).bus m' = s.bus m') ∧ (∀ c', (s.changePrompt id f).chan c' = s.chan c') ∧
    (s.changePrompt id f).clock = s.clock := by
  unfold State.changePrompt
  try dsimp only
  simp

@[simp] theorem State.removePrompt_keeps (s : State) (id : WorkId) :
    (s.removePrompt id).pending = s.pending ∧ (s.removePrompt id).ms = s.ms ∧ (s.removePrompt id).resetCause = s.resetCause ∧
    (s.removePrompt id).stop = s.stop ∧ (s.removePrompt id).ports = s.ports ∧ (s.removePrompt id).rnc = s.rnc ∧
    (s.removePrompt id).fxc = s.fxc ∧ (s.removePrompt id).stu = s.stu ∧ (s.removePrompt id).tri = s.tri ∧
    (s.removePrompt id).beu = s.beu ∧ (s.removePrompt id).mse = s.mse ∧ (s.removePrompt id).openChoices = s.openChoices ∧
    (∀ p', (s.removePrompt id).port p' = s.port p') ∧ (∀ m', (s.removePrompt id).run m' = s.run m') ∧
    (s.removePrompt id).active = s.active ∧ (∀ m', (s.removePrompt id).fix m' = s.fix m') ∧
    (∀ m', (s.removePrompt id).bus m' = s.bus m') ∧ (∀ c', (s.removePrompt id).chan c' = s.chan c') ∧
    (s.removePrompt id).clock = s.clock := by
  unfold State.removePrompt
  try dsimp only
  simp

@[simp] theorem State.present_keeps (s : State) (x : AnyPrompt) :
    (s.present x).pending = s.pending ∧ (s.present x).ms = s.ms ∧ (s.present x).resetCause = s.resetCause ∧
    (s.present x).stop = s.stop ∧ (s.present x).ports = s.ports ∧ (s.present x).rnc = s.rnc ∧ (s.present x).fxc = s.fxc ∧
    (s.present x).stu = s.stu ∧ (s.present x).tri = s.tri ∧ (s.present x).beu = s.beu ∧ (s.present x).mse = s.mse ∧
    (s.present x).openChoices = s.openChoices ∧ (∀ p', (s.present x).port p' = s.port p') ∧
    (∀ m', (s.present x).run m' = s.run m') ∧ (s.present x).active = s.active ∧ (∀ m', (s.present x).fix m' = s.fix m') ∧
    (∀ m', (s.present x).bus m' = s.bus m') ∧ (∀ c', (s.present x).chan c' = s.chan c') ∧ (s.present x).clock = s.clock := by
  unfold State.present
  try dsimp only
  (repeat' split) <;> simp

@[simp] theorem State.acknowledged_keeps (s : State) (n : Nest) :
    (s.acknowledged n).pending = s.pending ∧ (s.acknowledged n).ms = s.ms ∧ (s.acknowledged n).resetCause = s.resetCause ∧
    (s.acknowledged n).stop = s.stop ∧ (s.acknowledged n).ports = s.ports ∧ (s.acknowledged n).rnc = s.rnc ∧
    (s.acknowledged n).stu = s.stu ∧ (s.acknowledged n).tri = s.tri ∧ (s.acknowledged n).beu = s.beu ∧
    (s.acknowledged n).mse = s.mse ∧ (s.acknowledged n).pru = s.pru ∧ (s.acknowledged n).openChoices = s.openChoices ∧
    (∀ p', (s.acknowledged n).port p' = s.port p') ∧ (∀ m', (s.acknowledged n).run m' = s.run m') ∧
    (s.acknowledged n).active = s.active ∧ (∀ m', (s.acknowledged n).bus m' = s.bus m') ∧
    (∀ c', (s.acknowledged n).chan c' = s.chan c') ∧ (s.acknowledged n).clock = s.clock := by
  unfold State.acknowledged
  try dsimp only
  (repeat' split) <;> simp

@[simp] theorem State.settlePrompt_keeps (s : State) (x : Prompt) (r : WorkResult) :
    (s.settlePrompt x r).pending = s.pending ∧ (s.settlePrompt x r).ms = s.ms ∧
    (s.settlePrompt x r).resetCause = s.resetCause ∧ (s.settlePrompt x r).stop = s.stop ∧ (s.settlePrompt x r).fxc = s.fxc ∧
    (s.settlePrompt x r).stu = s.stu ∧ (s.settlePrompt x r).tri = s.tri ∧ (s.settlePrompt x r).beu = s.beu ∧
    (s.settlePrompt x r).mse = s.mse ∧ (s.settlePrompt x r).openChoices = s.openChoices ∧
    (∀ m', (s.settlePrompt x r).fix m' = s.fix m') ∧ (∀ m', (s.settlePrompt x r).bus m' = s.bus m') ∧
    (∀ c', (s.settlePrompt x r).chan c' = s.chan c') ∧ (s.settlePrompt x r).clock = s.clock := by
  unfold State.settlePrompt
  try dsimp only
  simp

@[simp] theorem State.repeatPrompt_keeps (s : State) (x : Prompt) :
    (s.repeatPrompt x).pending = s.pending ∧ (s.repeatPrompt x).ms = s.ms ∧ (s.repeatPrompt x).resetCause = s.resetCause ∧
    (s.repeatPrompt x).stop = s.stop ∧ (s.repeatPrompt x).ports = s.ports ∧ (s.repeatPrompt x).fxc = s.fxc ∧
    (s.repeatPrompt x).tri = s.tri ∧ (s.repeatPrompt x).beu = s.beu ∧ (s.repeatPrompt x).mse = s.mse ∧
    (s.repeatPrompt x).openChoices = s.openChoices ∧ (∀ p', (s.repeatPrompt x).port p' = s.port p') ∧
    (∀ m', (s.repeatPrompt x).fix m' = s.fix m') ∧ (∀ m', (s.repeatPrompt x).bus m' = s.bus m') ∧
    (s.repeatPrompt x).clock = s.clock := by
  unfold State.repeatPrompt
  try dsimp only
  simp

@[simp] theorem State.postSystemPrompt_keeps (s : State) (n : Nest) (c : FaultCause) :
    (s.postSystemPrompt n c).pending = s.pending ∧ (s.postSystemPrompt n c).ms = s.ms ∧
    (s.postSystemPrompt n c).resetCause = s.resetCause ∧ (s.postSystemPrompt n c).stop = s.stop ∧
    (s.postSystemPrompt n c).rnc = s.rnc ∧ (s.postSystemPrompt n c).fxc = s.fxc ∧ (s.postSystemPrompt n c).stu = s.stu ∧
    (s.postSystemPrompt n c).tri = s.tri ∧ (s.postSystemPrompt n c).beu = s.beu ∧ (s.postSystemPrompt n c).mse = s.mse ∧
    (s.postSystemPrompt n c).openChoices = s.openChoices ∧ (∀ m', (s.postSystemPrompt n c).run m' = s.run m') ∧
    (s.postSystemPrompt n c).active = s.active ∧ (∀ m', (s.postSystemPrompt n c).fix m' = s.fix m') ∧
    (∀ m', (s.postSystemPrompt n c).bus m' = s.bus m') ∧ (∀ c', (s.postSystemPrompt n c).chan c' = s.chan c') ∧
    (s.postSystemPrompt n c).clock = s.clock := by
  unfold State.postSystemPrompt
  try dsimp only
  simp

@[simp] theorem State.withdrawPrompts_keeps (s : State) (c : WorkId → Bool) (d : WithdrawDetail) :
    (s.withdrawPrompts c d).pending = s.pending ∧ (s.withdrawPrompts c d).ms = s.ms ∧
    (s.withdrawPrompts c d).resetCause = s.resetCause ∧ (s.withdrawPrompts c d).stop = s.stop ∧
    (s.withdrawPrompts c d).rnc = s.rnc ∧ (s.withdrawPrompts c d).fxc = s.fxc ∧ (s.withdrawPrompts c d).stu = s.stu ∧
    (s.withdrawPrompts c d).tri = s.tri ∧ (s.withdrawPrompts c d).beu = s.beu ∧ (s.withdrawPrompts c d).mse = s.mse ∧
    (s.withdrawPrompts c d).openChoices = s.openChoices ∧ (∀ m', (s.withdrawPrompts c d).run m' = s.run m') ∧
    (s.withdrawPrompts c d).active = s.active ∧ (∀ m', (s.withdrawPrompts c d).fix m' = s.fix m') ∧
    (∀ m', (s.withdrawPrompts c d).bus m' = s.bus m') ∧ (∀ c', (s.withdrawPrompts c d).chan c' = s.chan c') ∧
    (s.withdrawPrompts c d).clock = s.clock := by
  unfold State.withdrawPrompts
  try dsimp only
  simp

@[simp] theorem State.pruBecameHeld_keeps (s : State) (n : Nest) :
    (s.pruBecameHeld n).pending = s.pending ∧ (s.pruBecameHeld n).ms = s.ms ∧ (s.pruBecameHeld n).resetCause = s.resetCause ∧
    (s.pruBecameHeld n).stop = s.stop ∧ (s.pruBecameHeld n).rnc = s.rnc ∧ (s.pruBecameHeld n).fxc = s.fxc ∧
    (s.pruBecameHeld n).stu = s.stu ∧ (s.pruBecameHeld n).tri = s.tri ∧ (s.pruBecameHeld n).beu = s.beu ∧
    (s.pruBecameHeld n).mse = s.mse ∧ (s.pruBecameHeld n).openChoices = s.openChoices ∧
    (∀ m', (s.pruBecameHeld n).run m' = s.run m') ∧ (s.pruBecameHeld n).active = s.active ∧
    (∀ m', (s.pruBecameHeld n).fix m' = s.fix m') ∧ (∀ m', (s.pruBecameHeld n).bus m' = s.bus m') ∧
    (∀ c', (s.pruBecameHeld n).chan c' = s.chan c') ∧ (s.pruBecameHeld n).clock = s.clock := by
  unfold State.pruBecameHeld
  try dsimp only
  simp

/-! ## Runs -/

@[simp] theorem State.reportOpened_keeps (s : State) (n : Nest) :
    (s.reportOpened n).pending = s.pending ∧ (s.reportOpened n).ms = s.ms ∧ (s.reportOpened n).resetCause = s.resetCause ∧
    (s.reportOpened n).stop = s.stop ∧ (s.reportOpened n).fxc = s.fxc ∧ (s.reportOpened n).tri = s.tri ∧
    (s.reportOpened n).pru = s.pru ∧ (s.reportOpened n).openChoices = s.openChoices ∧
    (∀ m', (s.reportOpened n).fix m' = s.fix m') ∧ (s.reportOpened n).clock = s.clock := by
  unfold State.reportOpened
  try dsimp only
  simp

@[simp] theorem State.reportResumed_keeps (s : State) (n : Nest) :
    (s.reportResumed n).pending = s.pending ∧ (s.reportResumed n).ms = s.ms ∧ (s.reportResumed n).resetCause = s.resetCause ∧
    (s.reportResumed n).stop = s.stop ∧ (s.reportResumed n).fxc = s.fxc ∧ (s.reportResumed n).tri = s.tri ∧
    (s.reportResumed n).pru = s.pru ∧ (s.reportResumed n).openChoices = s.openChoices ∧
    (∀ m', (s.reportResumed n).fix m' = s.fix m') ∧ (s.reportResumed n).clock = s.clock := by
  unfold State.reportResumed
  try dsimp only
  simp

@[simp] theorem State.reportHeld_keeps (s : State) (n : Nest) :
    (s.reportHeld n).pending = s.pending ∧ (s.reportHeld n).ms = s.ms ∧ (s.reportHeld n).resetCause = s.resetCause ∧
    (s.reportHeld n).stop = s.stop ∧ (s.reportHeld n).rnc = s.rnc ∧ (s.reportHeld n).fxc = s.fxc ∧
    (s.reportHeld n).tri = s.tri ∧ (s.reportHeld n).openChoices = s.openChoices ∧
    (∀ m', (s.reportHeld n).run m' = s.run m') ∧ (s.reportHeld n).active = s.active ∧
    (∀ m', (s.reportHeld n).fix m' = s.fix m') ∧ (s.reportHeld n).clock = s.clock := by
  unfold State.reportHeld
  try dsimp only
  simp

@[simp] theorem State.reportClosed_keeps (s : State) (n : Nest) (d : WithdrawDetail) :
    (s.reportClosed n d).pending = s.pending ∧ (s.reportClosed n d).ms = s.ms ∧
    (s.reportClosed n d).resetCause = s.resetCause ∧ (s.reportClosed n d).stop = s.stop ∧ (s.reportClosed n d).rnc = s.rnc ∧
    (s.reportClosed n d).fxc = s.fxc ∧ (s.reportClosed n d).tri = s.tri ∧ (s.reportClosed n d).openChoices = s.openChoices ∧
    (∀ m', (s.reportClosed n d).run m' = s.run m') ∧ (s.reportClosed n d).active = s.active ∧
    (∀ m', (s.reportClosed n d).fix m' = s.fix m') ∧ (s.reportClosed n d).clock = s.clock := by
  unfold State.reportClosed
  try dsimp only
  simp

@[simp] theorem State.holdRun_keeps (s : State) (n : Nest) (d : RunDetail) :
    (s.holdRun n d).pending = s.pending ∧ (s.holdRun n d).ms = s.ms ∧ (s.holdRun n d).resetCause = s.resetCause ∧
    (s.holdRun n d).stop = s.stop ∧ (s.holdRun n d).fxc = s.fxc ∧ (s.holdRun n d).tri = s.tri ∧
    (s.holdRun n d).openChoices = s.openChoices ∧ (∀ m', (s.holdRun n d).fix m' = s.fix m') ∧ (s.holdRun n d).clock = s.clock := by
  unfold State.holdRun
  try dsimp only
  simp

@[simp] theorem State.closeRun_keeps (s : State) (n : Nest) (c : EndCause) :
    (s.closeRun n c).pending = s.pending ∧ (s.closeRun n c).ms = s.ms ∧ (s.closeRun n c).resetCause = s.resetCause ∧
    (s.closeRun n c).stop = s.stop ∧ (s.closeRun n c).fxc = s.fxc ∧ (s.closeRun n c).tri = s.tri ∧
    (s.closeRun n c).openChoices = s.openChoices ∧ (∀ m', (s.closeRun n c).fix m' = s.fix m') ∧
    (s.closeRun n c).clock = s.clock := by
  unfold State.closeRun
  try dsimp only
  simp

@[simp] theorem State.contactLoss_keeps (s : State) (n : Nest) :
    (s.contactLoss n).pending = s.pending ∧ (s.contactLoss n).ms = s.ms ∧ (s.contactLoss n).resetCause = s.resetCause ∧
    (s.contactLoss n).stop = s.stop ∧ (s.contactLoss n).fxc = s.fxc ∧ (s.contactLoss n).tri = s.tri ∧
    (s.contactLoss n).openChoices = s.openChoices ∧ (∀ m', (s.contactLoss n).fix m' = s.fix m') ∧
    (s.contactLoss n).clock = s.clock := by
  unfold State.contactLoss
  try dsimp only
  (repeat' split) <;> simp

@[simp] theorem State.faultReport_keeps (s : State) (n : Nest) (c : FaultCause) :
    (s.faultReport n c).pending = s.pending ∧ (s.faultReport n c).ms = s.ms ∧ (s.faultReport n c).resetCause = s.resetCause ∧
    (s.faultReport n c).stop = s.stop ∧ (s.faultReport n c).fxc = s.fxc ∧ (s.faultReport n c).tri = s.tri ∧
    (s.faultReport n c).openChoices = s.openChoices ∧ (∀ m', (s.faultReport n c).fix m' = s.fix m') ∧
    (s.faultReport n c).clock = s.clock := by
  unfold State.faultReport
  try dsimp only
  (repeat' split) <;> simp

@[simp] theorem State.orderWithdrawal_keeps (s : State) (k : EntryKind) (id : WorkId) :
    (s.orderWithdrawal k id).pending = s.pending ∧ (s.orderWithdrawal k id).ms = s.ms ∧
    (s.orderWithdrawal k id).resetCause = s.resetCause ∧ (s.orderWithdrawal k id).stop = s.stop ∧
    (s.orderWithdrawal k id).rnc = s.rnc ∧ (s.orderWithdrawal k id).fxc = s.fxc ∧ (s.orderWithdrawal k id).stu = s.stu ∧
    (s.orderWithdrawal k id).tri = s.tri ∧ (s.orderWithdrawal k id).openChoices = s.openChoices ∧
    (∀ m', (s.orderWithdrawal k id).run m' = s.run m') ∧ (s.orderWithdrawal k id).active = s.active ∧
    (∀ m', (s.orderWithdrawal k id).fix m' = s.fix m') ∧ (∀ c', (s.orderWithdrawal k id).chan c' = s.chan c') ∧
    (s.orderWithdrawal k id).clock = s.clock := by
  unfold State.orderWithdrawal
  try dsimp only
  (repeat' split) <;> simp

/-! ## Fixtures -/

@[simp] theorem State.enterFault_keeps (s : State) (n : Nest) (c : FaultCause) :
    (s.enterFault n c).pending = s.pending ∧ (s.enterFault n c).ms = s.ms ∧ (s.enterFault n c).resetCause = s.resetCause ∧
    (s.enterFault n c).stop = s.stop ∧ (s.enterFault n c).tri = s.tri ∧ (s.enterFault n c).openChoices = s.openChoices ∧
    (s.enterFault n c).clock = s.clock := by
  unfold State.enterFault
  try dsimp only
  simp

@[simp] theorem State.stopNest_keeps (s : State) (n : Nest) :
    (s.stopNest n).pending = s.pending ∧ (s.stopNest n).ms = s.ms ∧ (s.stopNest n).resetCause = s.resetCause ∧
    (s.stopNest n).stop = s.stop ∧ (s.stopNest n).tri = s.tri ∧ (s.stopNest n).openChoices = s.openChoices ∧
    (s.stopNest n).clock = s.clock := by
  unfold State.stopNest
  try dsimp only
  (repeat' split) <;> simp

@[simp] theorem State.wearLines_keeps (s : State) (n : Nest) (new : Vector Line 32) :
    (s.wearLines n new).pending = s.pending ∧ (s.wearLines n new).ms = s.ms ∧ (s.wearLines n new).resetCause = s.resetCause ∧
    (s.wearLines n new).stop = s.stop ∧ (s.wearLines n new).rnc = s.rnc ∧ (s.wearLines n new).stu = s.stu ∧
    (s.wearLines n new).tri = s.tri ∧ (s.wearLines n new).beu = s.beu ∧ (s.wearLines n new).mse = s.mse ∧
    (s.wearLines n new).pru = s.pru ∧ (s.wearLines n new).openChoices = s.openChoices ∧
    (∀ m', (s.wearLines n new).run m' = s.run m') ∧ (s.wearLines n new).active = s.active ∧
    (∀ m', (s.wearLines n new).bus m' = s.bus m') ∧ (∀ c', (s.wearLines n new).chan c' = s.chan c') ∧
    (s.wearLines n new).clock = s.clock := by
  unfold State.wearLines
  try dsimp only
  simp

@[simp] theorem State.reportLoss_keeps (s : State) (n : Nest) (r : Role) :
    (s.reportLoss n r).pending = s.pending ∧ (s.reportLoss n r).ms = s.ms ∧ (s.reportLoss n r).resetCause = s.resetCause ∧
    (s.reportLoss n r).stop = s.stop ∧ (s.reportLoss n r).fxc = s.fxc ∧ (s.reportLoss n r).stu = s.stu ∧
    (s.reportLoss n r).tri = s.tri ∧ (s.reportLoss n r).beu = s.beu ∧ (s.reportLoss n r).pru = s.pru ∧
    (s.reportLoss n r).openChoices = s.openChoices ∧ (∀ m', (s.reportLoss n r).fix m' = s.fix m') ∧
    (∀ m', (s.reportLoss n r).bus m' = s.bus m') ∧ (∀ c', (s.reportLoss n r).chan c' = s.chan c') ∧
    (s.reportLoss n r).clock = s.clock := by
  unfold State.reportLoss
  try dsimp only
  (repeat' split) <;> simp

@[simp] theorem State.lineLost_keeps (s : State) (n : Nest) (x : Fin 32 × LossCause) :
    (s.lineLost n x).pending = s.pending ∧ (s.lineLost n x).ms = s.ms ∧ (s.lineLost n x).resetCause = s.resetCause ∧
    (s.lineLost n x).stop = s.stop ∧ (s.lineLost n x).fxc = s.fxc ∧ (s.lineLost n x).stu = s.stu ∧
    (s.lineLost n x).tri = s.tri ∧ (s.lineLost n x).beu = s.beu ∧ (s.lineLost n x).pru = s.pru ∧
    (s.lineLost n x).openChoices = s.openChoices ∧ (∀ m', (s.lineLost n x).fix m' = s.fix m') ∧
    (∀ m', (s.lineLost n x).bus m' = s.bus m') ∧ (∀ c', (s.lineLost n x).chan c' = s.chan c') ∧
    (s.lineLost n x).clock = s.clock := by
  unfold State.lineLost
  try dsimp only
  simp

@[simp] theorem State.restAfterScan_keeps (s : State) (n : Nest) (r : ScanResult) (k : Option (Fin 32)) :
    (s.restAfterScan n r k).pending = s.pending ∧ (s.restAfterScan n r k).ms = s.ms ∧
    (s.restAfterScan n r k).resetCause = s.resetCause ∧ (s.restAfterScan n r k).stop = s.stop ∧
    (s.restAfterScan n r k).rnc = s.rnc ∧ (s.restAfterScan n r k).stu = s.stu ∧ (s.restAfterScan n r k).tri = s.tri ∧
    (s.restAfterScan n r k).beu = s.beu ∧ (s.restAfterScan n r k).mse = s.mse ∧ (s.restAfterScan n r k).pru = s.pru ∧
    (s.restAfterScan n r k).openChoices = s.openChoices ∧ (∀ m', (s.restAfterScan n r k).run m' = s.run m') ∧
    (s.restAfterScan n r k).active = s.active ∧ (∀ m', (s.restAfterScan n r k).bus m' = s.bus m') ∧
    (∀ c', (s.restAfterScan n r k).chan c' = s.chan c') ∧ (s.restAfterScan n r k).clock = s.clock := by
  unfold State.restAfterScan
  try dsimp only
  (repeat' split) <;> simp

/-- A foldl of operations keeps what each of them keeps. -/
theorem foldl_keeps {α β : Type} (g : State → β) (f : State → α → State) (h : ∀ s x, g (f s x) = g s) (l : List α) (s : State) :
    g (l.foldl f s) = g s := by
  induction l generalizing s with
  | nil => rfl
  | cons x l ih => simpa [h] using ih (f s x)

@[simp] theorem State.completeScan_keeps (s : State) (n : Nest) (sc : Scan) :
    (s.completeScan n sc).pending = s.pending ∧ (s.completeScan n sc).ms = s.ms ∧
    (s.completeScan n sc).resetCause = s.resetCause ∧ (s.completeScan n sc).stop = s.stop ∧
    (s.completeScan n sc).stu = s.stu ∧ (s.completeScan n sc).tri = s.tri ∧ (s.completeScan n sc).beu = s.beu ∧
    (s.completeScan n sc).pru = s.pru ∧ (s.completeScan n sc).openChoices = s.openChoices ∧
    (∀ m', (s.completeScan n sc).bus m' = s.bus m') ∧ (∀ c', (s.completeScan n sc).chan c' = s.chan c') ∧
    (s.completeScan n sc).clock = s.clock := by
  unfold State.completeScan
  simp only [State.restAfterScan_keeps]
  refine ⟨?_, ?_, ?_, ?_, ?_, ?_, ?_, ?_, ?_, ?_, ?_, ?_⟩
  · exact (foldl_keeps State.pending _ (by simp) _ _).trans (by simp)
  · exact (foldl_keeps State.ms _ (by simp) _ _).trans (by simp)
  · exact (foldl_keeps State.resetCause _ (by simp) _ _).trans (by simp)
  · exact (foldl_keeps State.stop _ (by simp) _ _).trans (by simp)
  · exact (foldl_keeps State.stu _ (by simp) _ _).trans (by simp)
  · exact (foldl_keeps State.tri _ (by simp) _ _).trans (by simp)
  · exact (foldl_keeps State.beu _ (by simp) _ _).trans (by simp)
  · exact (foldl_keeps State.pru _ (by simp) _ _).trans (by simp)
  · exact (foldl_keeps State.openChoices _ (by simp) _ _).trans (by simp)
  · intro x; exact (foldl_keeps (fun t => t.bus x) _ (by simp) _ _).trans (by simp)
  · intro x; exact (foldl_keeps (fun t => t.chan x) _ (by simp) _ _).trans (by simp)
  · exact (foldl_keeps State.clock _ (by simp) _ _).trans (by simp)

/-! ## Triggers -/

@[simp] theorem State.setLine_keeps (s : State) (l : Fin 4) (x : TriggerLine) :
    (s.setLine l x).pending = s.pending ∧ (s.setLine l x).ms = s.ms ∧ (s.setLine l x).resetCause = s.resetCause ∧
    (s.setLine l x).stop = s.stop ∧ (s.setLine l x).ports = s.ports ∧ (s.setLine l x).rnc = s.rnc ∧
    (s.setLine l x).fxc = s.fxc ∧ (s.setLine l x).stu = s.stu ∧ (s.setLine l x).beu = s.beu ∧ (s.setLine l x).mse = s.mse ∧
    (s.setLine l x).pru = s.pru ∧ (s.setLine l x).openChoices = s.openChoices ∧ (∀ p', (s.setLine l x).port p' = s.port p') ∧
    (∀ m', (s.setLine l x).run m' = s.run m') ∧ (s.setLine l x).active = s.active ∧
    (∀ m', (s.setLine l x).fix m' = s.fix m') ∧ (∀ m', (s.setLine l x).bus m' = s.bus m') ∧
    (∀ c', (s.setLine l x).chan c' = s.chan c') ∧ (s.setLine l x).clock = s.clock := by
  unfold State.setLine
  try dsimp only
  simp

@[simp] theorem State.edgeToRequests_keeps (s : State) (l : Fin 4) (e : Edge) :
    (s.edgeToRequests l e).pending = s.pending ∧ (s.edgeToRequests l e).ms = s.ms ∧
    (s.edgeToRequests l e).resetCause = s.resetCause ∧ (s.edgeToRequests l e).stop = s.stop ∧
    (s.edgeToRequests l e).ports = s.ports ∧ (s.edgeToRequests l e).rnc = s.rnc ∧ (s.edgeToRequests l e).fxc = s.fxc ∧
    (s.edgeToRequests l e).stu = s.stu ∧ (s.edgeToRequests l e).tri = s.tri ∧ (s.edgeToRequests l e).beu = s.beu ∧
    (s.edgeToRequests l e).pru = s.pru ∧ (s.edgeToRequests l e).openChoices = s.openChoices ∧
    (∀ p', (s.edgeToRequests l e).port p' = s.port p') ∧ (∀ m', (s.edgeToRequests l e).run m' = s.run m') ∧
    (s.edgeToRequests l e).active = s.active ∧ (∀ m', (s.edgeToRequests l e).fix m' = s.fix m') ∧
    (∀ m', (s.edgeToRequests l e).bus m' = s.bus m') ∧ (∀ c', (s.edgeToRequests l e).chan c' = s.chan c') ∧
    (s.edgeToRequests l e).clock = s.clock := by
  unfold State.edgeToRequests
  try dsimp only
  simp

@[simp] theorem State.deliverEdge_keeps (s : State) (l : Fin 4) (e : Edge) :
    (s.deliverEdge l e).pending = s.pending ∧ (s.deliverEdge l e).ms = s.ms ∧ (s.deliverEdge l e).resetCause = s.resetCause ∧
    (s.deliverEdge l e).stop = s.stop ∧ (s.deliverEdge l e).ports = s.ports ∧ (s.deliverEdge l e).rnc = s.rnc ∧
    (s.deliverEdge l e).fxc = s.fxc ∧ (s.deliverEdge l e).tri = s.tri ∧ (s.deliverEdge l e).beu = s.beu ∧
    (s.deliverEdge l e).pru = s.pru ∧ (s.deliverEdge l e).openChoices = s.openChoices ∧
    (∀ p', (s.deliverEdge l e).port p' = s.port p') ∧ (∀ m', (s.deliverEdge l e).run m' = s.run m') ∧
    (s.deliverEdge l e).active = s.active ∧ (∀ m', (s.deliverEdge l e).fix m' = s.fix m') ∧
    (∀ m', (s.deliverEdge l e).bus m' = s.bus m') ∧ (s.deliverEdge l e).clock = s.clock := by
  unfold State.deliverEdge
  try dsimp only
  simp

@[simp] theorem State.filterTo_keeps (s : State) (l : Fin 4) (v : Level) :
    (s.filterTo l v).pending = s.pending ∧ (s.filterTo l v).ms = s.ms ∧ (s.filterTo l v).resetCause = s.resetCause ∧
    (s.filterTo l v).stop = s.stop ∧ (s.filterTo l v).ports = s.ports ∧ (s.filterTo l v).rnc = s.rnc ∧
    (s.filterTo l v).fxc = s.fxc ∧ (s.filterTo l v).beu = s.beu ∧ (s.filterTo l v).pru = s.pru ∧
    (s.filterTo l v).openChoices = s.openChoices ∧ (∀ p', (s.filterTo l v).port p' = s.port p') ∧
    (∀ m', (s.filterTo l v).run m' = s.run m') ∧ (s.filterTo l v).active = s.active ∧
    (∀ m', (s.filterTo l v).fix m' = s.fix m') ∧ (∀ m', (s.filterTo l v).bus m' = s.bus m') ∧
    (s.filterTo l v).clock = s.clock := by
  unfold State.filterTo
  try dsimp only
  simp

end Sys2Proof.Machine
end

