-- ==== Sys2Proof/Laws/Ports.lean ====
section
/-! SUPPORT. The taking of a command, accesses of a port window, and notices: one lemma for each outcome. -/

namespace Sys2Proof.Machine

/-! ## Write accesses (R167) -/

theorem State.writeAccess_at {s : State} {p : Port} {k : Nat} (h : (s.port p).spi = some ⟨true, k⟩) (f : State → State) :
    s.writeAccess p k f = f (s.setPort p { s.port p with spi := some ⟨true, slotAfter k⟩ }) := by
  simp [State.writeAccess, PortWindow.writesAt, h, PortWindow.step]

theorem State.writeAccess_off {s : State} {p : Port} {k : Nat} (h : (s.port p).spi ≠ some ⟨true, k⟩) (f : State → State) :
    s.writeAccess p k f = s := by
  simp [State.writeAccess, PortWindow.writesAt, h]

/-! ## Taking a command (R168, R174) -/

/-- The state an owning block takes a command in: the transaction has moved on, the pending completion is cleared, and the PARAM words
have the command's layout (R179). -/
def State.taking (s : State) (p : Port) (named : Vector Word 8) : State :=
  s.setPort p { s.port p with spi := some ⟨true, 1⟩, pendingCompletion := false, named := named }

theorem State.takeCommand_accepts {s : State} {p : Port} {k : Permitted} (h : s.Accepts p) (hk : k.at p = true)
    (body : State → State × Answer) (v : Vector Word 8) :
    s.takeCommand p k body v =
      (body (s.taking p v)).1.setPort p { (body (s.taking p v)).1.port p with mode := .busy (body (s.taking p v)).2 } := by
  simp [State.takeCommand, State.writeAccess_at h.1, h.2, hk, State.taking, slotAfter]

theorem State.takeCommand_forbidden {s : State} {p : Port} {k : Permitted} (h : s.Accepts p) (hk : k.at p = false)
    (body : State → State × Answer) (v : Vector Word 8) :
    s.takeCommand p k body v = s.setPort p { (s.port p).complete .unknown [] with spi := some ⟨true, 1⟩ } := by
  simp [State.takeCommand, State.writeAccess_at h.1, h.2, hk, slotAfter, PortWindow.complete]

theorem State.takeCommand_collides {s : State} {p : Port} {k : Permitted} (h : (s.port p).spi = some ⟨true, 0⟩)
    (hm : (s.port p).mode ≠ .ready) (body : State → State × Answer) (v : Vector Word 8) :
    s.takeCommand p k body v = s.setPort p { s.port p with spi := some ⟨true, 1⟩, collide := true } := by
  unfold State.takeCommand
  rw [State.writeAccess_at h]
  cases hmode : (s.port p).mode <;> simp_all [slotAfter, PortWindow.collision]

theorem State.takeCommand_off {s : State} {p : Port} {k : Permitted} (h : (s.port p).spi ≠ some ⟨true, 0⟩)
    (body : State → State × Answer) (v : Vector Word 8) : s.takeCommand p k body v = s := State.writeAccess_off h _

@[simp] theorem Permitted.station_at (n : Nest) : Permitted.station.at n.port = true := by cases n <;> rfl

@[simp] theorem Permitted.any_at (p : Port) : Permitted.anyPort.at p = true := by cases p <;> rfl

@[simp] theorem Permitted.operator_at : Permitted.operator.at .operator = true := rfl

theorem State.stationCommand_accepts {s : State} {n : Nest} (h : s.Accepts n.port) (body : Nest → State → State × Answer) (v : Vector Word 8) :
    s.stationCommand n.port body v =
      (body n (s.taking n.port v)).1.setPort n.port
        { (body n (s.taking n.port v)).1.port n.port with mode := .busy (body n (s.taking n.port v)).2 } := by
  simp [State.stationCommand, State.takeCommand_accepts h]

/-- What taking a command leaves as it was for the owning block. -/
@[simp] theorem State.taking_keeps (s : State) (p : Port) (v : Vector Word 8) :
    (s.taking p v).pending = s.pending ∧ (s.taking p v).ms = s.ms ∧ (s.taking p v).resetCause = s.resetCause ∧
    (s.taking p v).stop = s.stop ∧ (s.taking p v).rnc = s.rnc ∧ (s.taking p v).fxc = s.fxc ∧ (s.taking p v).stu = s.stu ∧
    (s.taking p v).tri = s.tri ∧ (s.taking p v).beu = s.beu ∧ (s.taking p v).mse = s.mse ∧ (s.taking p v).pru = s.pru ∧
    (s.taking p v).openChoices = s.openChoices ∧ (∀ m, (s.taking p v).run m = s.run m) ∧ (s.taking p v).active = s.active ∧
    (∀ m, (s.taking p v).fix m = s.fix m) ∧ (∀ m, (s.taking p v).bus m = s.bus m) ∧ (∀ c, (s.taking p v).chan c = s.chan c) ∧
    (s.taking p v).clock = s.clock := by
  simp [State.taking]

@[simp] theorem State.port_taking (s : State) (p : Port) (v : Vector Word 8) :
    (s.taking p v).port p = { s.port p with spi := some ⟨true, 1⟩, pendingCompletion := false, named := v } := by simp [State.taking]

theorem State.port_taking_ne (s : State) (v : Vector Word 8) {p q : Port} (h : q ≠ p) : (s.taking p v).port q = s.port q := by
  simp [State.taking, State.port_setPort_if, h]

@[simp] theorem State.param_taking (s : State) (p : Port) (v : Vector Word 8) (k : Fin 8) : (s.taking p v).param p k = s.param p k := by
  simp [State.param]

@[simp] theorem State.param32_taking (s : State) (p : Port) (v : Vector Word 8) (k l : Fin 8) : (s.taking p v).param32 p k l = s.param32 p k l := by
  simp [State.param32]

@[simp] theorem State.awaitsOperator_taking (s : State) (p : Port) (v : Vector Word 8) (n : Nest) :
    (s.taking p v).awaitsOperator n = s.awaitsOperator n := by simp [State.awaitsOperator]

@[simp] theorem State.setPort_taking (s : State) (p : Port) (v : Vector Word 8) (w : PortWindow) : (s.taking p v).setPort p w = s.setPort p w := by
  simp [State.taking]

/-! What an owning block changes and the taking itself are independent, so the taking can be moved outwards. -/

@[simp] theorem State.setRun_taking (s : State) (p : Port) (v : Vector Word 8) (n : Nest) (r : Rnc) : (s.taking p v).setRun n r = (s.setRun n r).taking p v := rfl

@[simp] theorem State.setFix_taking (s : State) (p : Port) (v : Vector Word 8) (n : Nest) (f : Fxc) : (s.taking p v).setFix n f = (s.setFix n f).taking p v := rfl

@[simp] theorem State.setBus_taking (s : State) (p : Port) (v : Vector Word 8) (n : Nest) (b : Beu) : (s.taking p v).setBus n b = (s.setBus n b).taking p v := rfl

@[simp] theorem State.setStu_taking (s : State) (p : Port) (v : Vector Word 8) (x : Stu) : (s.taking p v).setStu x = (s.setStu x).taking p v := rfl

@[simp] theorem State.setMse_taking (s : State) (p : Port) (v : Vector Word 8) (x : Mse) : (s.taking p v).setMse x = (s.setMse x).taking p v := rfl

@[simp] theorem State.setPru_taking (s : State) (p : Port) (v : Vector Word 8) (x : Pru) : (s.taking p v).setPru x = (s.setPru x).taking p v := rfl

@[simp] theorem State.setTri_taking (s : State) (p : Port) (v : Vector Word 8) (x : Vector TriggerLine 4) : (s.taking p v).setTri x = (s.setTri x).taking p v := rfl

/-- A command that changes nothing but its port: the state it answers. -/
theorem State.setPort_busy_taking (s : State) (p : Port) (v : Vector Word 8) (x : Answer) :
    (s.taking p v).setPort p { (s.taking p v).port p with mode := .busy x } = s.answered p x v := by
  simp [State.answered, PortWindow.taken]

/-! ## Notices (R175) -/

theorem PortWindow.post_room {w : PortWindow} (h : w.notices.length < Config.noticeCap) (x : Notice) :
    w.post x = { w with notices := w.notices ++ [x] } := by simp [PortWindow.post, h]

theorem PortWindow.post_full {w : PortWindow} (h : ¬ w.notices.length < Config.noticeCap) (x : Notice) :
    w.post x = { w with overflow := true } := by simp [PortWindow.post, h]

/-- A notice changes nothing of a port but its queue and OVERFLOW. -/
@[simp] theorem PortWindow.post_keeps (w : PortWindow) (x : Notice) :
    (w.post x).spi = w.spi ∧ (w.post x).out = w.out ∧ (w.post x).params = w.params ∧ (w.post x).named = w.named ∧ (w.post x).resp = w.resp ∧
    (w.post x).mode = w.mode ∧ (w.post x).late = w.late ∧ (w.post x).code = w.code ∧ (w.post x).error = w.error ∧
    (w.post x).pendingCompletion = w.pendingCompletion ∧ (w.post x).collide = w.collide ∧
    (w.post x).attnEnable = w.attnEnable := by
  unfold PortWindow.post; split <;> simp

theorem PortWindow.post_length (w : PortWindow) (x : Notice) (h : w.notices.length ≤ Config.noticeCap) :
    (w.post x).notices.length ≤ Config.noticeCap := by
  unfold PortWindow.post; split <;> simp <;> omega

theorem PortWindow.post_mode (w : PortWindow) (x : Notice) (m : PortMode) :
    { w.post x with mode := m } = PortWindow.post { w with mode := m } x := by
  unfold PortWindow.post; split <;> simp_all

theorem State.port_post (s : State) (p : Port) (x : Notice) : (s.post p x).port p = (s.port p).post x := by simp [State.post]

theorem State.port_post_if (s : State) (p q : Port) (x : Notice) :
    (s.post p x).port q = if q = p then (s.port p).post x else s.port q := by simp [State.post, State.port_setPort_if]

@[simp] theorem State.port_postStation (s : State) (n : Nest) (b : NoticeBody) :
    (s.postStation n b).port n.port = (s.port n.port).post ⟨n, b⟩ := State.port_post ..

@[simp] theorem State.port_postStation_other (s : State) (n : Nest) (b : NoticeBody) :
    (s.postStation n b).port n.other.port = s.port n.other.port := by
  cases n <;> simp [State.postStation, State.port_post_if, Nest.port, Nest.other]

@[simp] theorem State.port_postStation_operator (s : State) (n : Nest) (b : NoticeBody) :
    (s.postStation n b).port .operator = s.port .operator := by
  cases n <;> simp [State.postStation, State.port_post_if, Nest.port]

@[simp] theorem State.port_postOperator (s : State) (n : Nest) (b : NoticeBody) :
    (s.postOperator n b).port .operator = (s.port .operator).post ⟨n, b⟩ := State.port_post ..

@[simp] theorem State.port_postOperator_station (s : State) (n m : Nest) (b : NoticeBody) :
    (s.postOperator n b).port m.port = s.port m.port := by
  cases m <;> simp [State.postOperator, State.port_post_if, Nest.port]

/-- A command of a station port that posts one notice to that port: the state it answers. -/
theorem State.setPort_busy_noticed (s : State) (n : Nest) (b : NoticeBody) (x : Answer) :
    ((s.taking n.port wholeParams).postStation n b).setPort n.port { ((s.taking n.port wholeParams).postStation n b).port n.port with mode := .busy x } =
      s.answeredNotice n x b := by
  rw [State.port_postStation, PortWindow.post_mode, State.postStation, State.post, State.setPort_setPort, State.setPort_taking,
    State.answeredNotice, State.port_taking, PortWindow.taken]

end Sys2Proof.Machine
end

