-- ==== Sys2Proof/Laws/Stimulus.lean ====
section
/-! SUPPORT. Channel masks, channel records, outputs and generators: what each shared operation of the STU does to a channel. -/

namespace Sys2Proof.Machine

/-! ## Masks and indices -/

theorem maskOf_go (f : Fin 16 → Bool) (c : Fin 16) (l : List (Fin 16)) :
    (l.foldr (fun c m => if f c then m ||| BitVec.twoPow 16 c.val else m) 0#16).getLsbD c.val = (l.contains c && f c) := by
  induction l with
  | nil => simp
  | cons x l ih =>
    rw [List.foldr_cons]
    cases hf : f x
    · simp only [Bool.false_eq_true, if_false, ih]
      by_cases hx : c = x
      · simp [hx, hf]
      · simp [hx]
    · simp only [if_true, BitVec.getLsbD_or, ih, BitVec.getLsbD_twoPow]
      by_cases hx : c = x
      · simp [hx, hf]
      · simp [hx]
        exact fun h => absurd (Fin.ext h.symm) hx

@[simp] theorem inMask_maskOf (f : Fin 16 → Bool) (c : Fin 16) : inMask (maskOf f) c = f c := by
  unfold inMask maskOf
  rw [maskOf_go]
  simp [List.mem_finRange]

theorem MaskOf_maskOf {f : Fin 16 → Bool} {P : Fin 16 → Prop} (h : ∀ c, f c = true ↔ P c) : MaskOf (maskOf f) P := by
  intro c; simp [h]

theorem index?_some {n x : Nat} (h : x < n) : index? n x = some ⟨x, h⟩ := by simp [index?, h]

theorem index?_none {n x : Nat} (h : ¬ x < n) : index? n x = none := by simp [index?, h]

@[simp] theorem index?_val {n : Nat} (k : Fin n) : index? n k.val = some k := by simp [index?]

/-! ## Records -/

theorem Channel.sameRecord_rfl (x : Channel) : x.sameRecord x := rfl

theorem Channel.sameRecord_trans {x y z : Channel} (h : x.sameRecord y) (k : y.sameRecord z) : x.sameRecord z := by
  unfold Channel.sameRecord at *
  rw [k] at h
  exact h

theorem Channel.sameRecord_symm {x y : Channel} (h : x.sameRecord y) : y.sameRecord x := by
  unfold Channel.sameRecord at *
  rw [h]

/-- The output depends on the record alone (R84). -/
theorem Channel.sameRecord_output {x y : Channel} (h : x.sameRecord y) (a : Nest → Bool) : x.output a = y.output a := by
  unfold Channel.sameRecord at h
  rw [h]; rfl

theorem State.chan_mapChans (s : State) (f : Fin 16 → Channel → Channel) (c : Fin 16) :
    (s.mapChans f).chan c = f c (s.chan c) := by simp [State.mapChans, State.chan]

@[simp] theorem State.mapChans_pace (s : State) (f : Fin 16 → Channel → Channel) : (s.mapChans f).stu.pace = s.stu.pace := rfl

@[simp] theorem State.setChan_pace (s : State) (c : Fin 16) (ch : Channel) : (s.setChan c ch).stu.pace = s.stu.pace := rfl

@[simp] theorem State.setPace_pace (s : State) (n : Nest) (x : Pace) : (s.setPace n x).stu.pace = s.stu.pace.set n x := rfl

@[simp] theorem State.setPace_chans (s : State) (n : Nest) (x : Pace) : (s.setPace n x).stu.chans = s.stu.chans := rfl

@[simp] theorem State.chan_setPace (s : State) (n : Nest) (x : Pace) (c : Fin 16) : (s.setPace n x).chan c = s.chan c := rfl

theorem State.chan_setChan (s : State) (c d : Fin 16) (ch : Channel) :
    (s.setChan c ch).chan d = if d = c then ch else s.chan d := by
  simp [State.setChan, State.chan, Vector.getElem_set, Fin.ext_iff, eq_comm]

theorem State.output_eq (s : State) (c : Fin 16) : s.output c = (s.chan c).output s.active := rfl

theorem State.mapChans_stu (s : State) (f : Fin 16 → Channel → Channel) :
    (s.mapChans f) = { s with stu := { s.stu with chans := (s.mapChans f).stu.chans } } := rfl

theorem State.setChan_stu (s : State) (c : Fin 16) (ch : Channel) :
    (s.setChan c ch) = { s with stu := { s.stu with chans := (s.setChan c ch).stu.chans } } := rfl

/-! ## Generators (R84) -/

theorem Channel.syncRate_same (ch : Channel) (c : Fin 16) (out now : Nat) : (ch.syncRate c out now).sameRecord ch := by
  unfold Channel.syncRate; split <;> rfl

theorem State.chan_sync (s : State) (c : Fin 16) :
    s.syncGenerators.chan c = (s.chan c).syncRate c (s.output c) s.ms := State.chan_mapChans ..

theorem State.chan_sync_same (s : State) (c : Fin 16) : (s.syncGenerators.chan c).sameRecord (s.chan c) := by
  rw [State.chan_sync]; exact Channel.syncRate_same ..

@[simp] theorem State.sync_pace (s : State) : s.syncGenerators.stu.pace = s.stu.pace := rfl

@[simp] theorem State.output_sync (s : State) (c : Fin 16) : s.syncGenerators.output c = s.output c := by
  rw [State.output_eq, Channel.sameRecord_output (State.chan_sync_same s c)]
  simp [State.output_eq]

/-- A state whose generators follow the outputs after the event: what happened to one generator. -/
theorem GeneratorsAdopt_sync {s t : State} {c : Fin 16} (hr : (t.chan c).rate = (s.chan c).rate)
    (hp : (t.chan c).periodEnd = (s.chan c).periodEnd) (hm : t.ms = s.ms) : GeneratorsAdopt s t.syncGenerators c := by
  unfold GeneratorsAdopt
  rw [State.output_sync, State.chan_sync, hm]
  unfold Channel.syncRate
  rw [hr]
  split
  · rename_i h
    by_cases h0 : 0 < t.output c
    · have : t.output c ≠ 0 := by omega
      simp [h.1, h.2, h0, this]
    · have : t.output c = 0 := by omega
      simp [h.1, h.2, this, hr, hp]
  · rename_i h
    split
    · rename_i h'; exact absurd ⟨h'.1, h'.2.1⟩ h
    · exact ⟨hr, hp⟩

/-- What happened to a generator depends on the channel, its output and the clock alone. -/
theorem GeneratorsAdopt.congr {s s' t t' : State} {c : Fin 16} (h : GeneratorsAdopt s t c) (hs : s'.chan c = s.chan c)
    (hms : s'.ms = s.ms) (ht : t'.chan c = t.chan c) (ho : t'.output c = t.output c) : GeneratorsAdopt s' t' c := by
  unfold GeneratorsAdopt at *
  rwa [hs, hms, ht, ho]

/-! ## Claims (R67 to R70) -/

theorem Channel.giveUp_eq (ch : Channel) (n : Nest) :
    ch.giveUp n = ch.closedFor n := by
  unfold Channel.giveUp Channel.closedFor Channel.release Channel.claimDefaults
  rfl

/-- R69, R70: what a release of the channels of sel by nest n does to each channel. -/
theorem State.chan_giveUp (s : State) (n : Nest) (sel : Fin 16 → Bool) (c : Fin 16) :
    ((s.giveUpWhere n sel).chan c).sameRecord (if sel c then (s.chan c).closedFor n else s.chan c) := by
  simp only [State.giveUpWhere, State.postGranted_keeps]
  refine Channel.sameRecord_trans (State.chan_sync_same _ c) ?_
  rw [State.chan_mapChans, Channel.giveUp_eq]
  exact rfl

/-- R84: the generators follow a release. -/
theorem State.adopt_giveUp (s : State) (n : Nest) (sel : Fin 16 → Bool) (c : Fin 16) :
    GeneratorsAdopt s (s.giveUpWhere n sel) c := by
  have hrec : ∀ ch : Channel, (if sel c then ch.giveUp n else ch).rate = ch.rate ∧
      (if sel c then ch.giveUp n else ch).periodEnd = ch.periodEnd := by
    intro ch
    unfold Channel.giveUp Channel.release Channel.claimDefaults
    split <;> (try split) <;> (try split) <;> simp
  refine GeneratorsAdopt.congr (s := s)
    (t := (s.mapChans fun c ch => if sel c then ch.giveUp n else ch).syncGenerators) ?_ rfl rfl ?_ ?_
  · refine GeneratorsAdopt_sync ?_ ?_ rfl <;> rw [State.chan_mapChans]
    · exact (hrec _).1
    · exact (hrec _).2
  · simp [State.giveUpWhere]
  · simp [State.giveUpWhere, State.output_eq]

@[simp] theorem State.giveUp_pace (s : State) (n : Nest) (sel : Fin 16 → Bool) : (s.giveUpWhere n sel).stu.pace = s.stu.pace := by
  simp [State.giveUpWhere]

/-- R68: the notice of a release goes to the station port of the nest that waited, and to no other port. -/
theorem State.port_giveUp (s : State) (n : Nest) (sel : Fin 16 → Bool) :
    (s.giveUpWhere n sel).port n.other.port = (s.port n.other.port).granted n.other
        (maskOf fun c => sel c && (s.chan c).owner == some n && (s.chan c).waiter == some n.other) ∧
    (s.giveUpWhere n sel).port n.port = s.port n.port ∧ (s.giveUpWhere n sel).port .operator = s.port .operator := by
  unfold State.giveUpWhere State.postGranted PortWindow.granted
  split
  · simp
  · cases n <;> simp [State.postStation, State.port_post_if, Nest.port, Nest.other]

/-! ## Commit events (R94) -/

theorem Channel.commit_generator (ch : Channel) (top : Nat) :
    (ch.commit top).rate = ch.rate ∧ (ch.commit top).periodEnd = ch.periodEnd ∧ (ch.commit top).owner = ch.owner ∧
    (ch.commit top).waiter = ch.waiter ∧ (ch.commit top).safe = ch.safe := by
  unfold Channel.commit; split <;> (try split) <;> simp

theorem State.chan_commitWhere (s : State) (sel : Fin 16 → Channel → Bool) (c : Fin 16) :
    ((s.commitWhere sel).chan c).sameRecord
      (if sel c (s.chan c) = true ∧ (s.chan c).ownerActive s.active = true then (s.chan c).commit (chanTop c) else s.chan c) := by
  refine Channel.sameRecord_trans (State.chan_sync_same _ c) ?_
  rw [State.chan_mapChans]
  simp only [Bool.and_eq_true]
  exact rfl

@[simp] theorem State.commitWhere_pace (s : State) (sel : Fin 16 → Channel → Bool) :
    (s.commitWhere sel).stu.pace = s.stu.pace := rfl

end Sys2Proof.Machine
end

