-- ==== Sys2Proof/Laws/Measurement.lean ====
section
/-! SUPPORT. The measurement engine: what its choice does, and the request an entry names. -/

namespace Sys2Proof.Machine

/-- R138: everything the choice can do. -/
theorem State.chooseRequest_chooses (s : State) :
    s.chooseRequest = s.setEngine s.chooseRequest.mse.engine ∧ s.Chooses s.chooseRequest.mse.engine := by
  unfold State.chooseRequest
  cases he : s.mse.engine with
  | working id off ph =>
    refine ⟨?_, by simp [State.Chooses, he]⟩
    have : s.setEngine s.mse.engine = s := rfl
    rw [he] at this ⊢
    exact this.symm
  | idle =>
    cases hf : s.mse.queue.find? fun r => r.ready && s.active r.id.nest with
    | none =>
      refine ⟨rfl, by simp [he], fun _ => ⟨fun _ => he, ?_⟩⟩
      intro before r after hq _ hr ha
      have := List.find?_eq_none.1 hf r (by simp [hq])
      simp [hr, ha] at this
    | some x =>
      refine ⟨rfl, by simp [he], fun _ => ⟨fun h => ?_, ?_⟩⟩
      · have h1 := List.mem_of_find?_eq_some hf
        have h2 := List.find?_some hf
        simp only [Bool.and_eq_true] at h2
        simp [h x h1 h2.1] at h2
      · intro before r after hq hb hr ha
        have : x = r := by
          rw [hq, List.find?_append, List.find?_eq_none.2 (by intro y hy; simpa using hb y hy)] at hf
          simp [hr, ha] at hf
          exact hf.symm
        subst this
        refine ⟨fun h => ?_, fun h => ?_⟩
        · have : x.settle ≠ 0 := by omega
          simp [State.startEngine, State.setEngine, this]
        · simp [State.startEngine, State.setEngine, h, Request.measuring]

/-- What the engine chooses depends on the MSE, the runs and the clock alone. -/
theorem State.Chooses.congr {s t : State} {e : Engine} (h : s.Chooses e) (hm : t.mse = s.mse) (ha : t.active = s.active)
    (hms : t.ms = s.ms) : t.Chooses e := by
  unfold State.Chooses State.inputOf at *
  rwa [hm, ha, hms]

theorem EngineChose.congr {s s' t t' : State} {stops : WorkId → Prop} (h : EngineChose s t stops)
    (hs : s'.mse.engine = s.mse.engine) (hm : t'.mse = t.mse) (ha : t'.active = t.active) (hms : t'.ms = t.ms) :
    EngineChose s' t' stops := by
  unfold EngineChose at *
  have hc : ∀ e, { t with mse := { t.mse with engine := .idle } }.Chooses e →
      { t' with mse := { t'.mse with engine := .idle } }.Chooses e :=
    fun e h => h.congr (by simp [hm]) ha hms
  rw [hs, hm] at *
  exact ⟨fun hi => hc _ (h.1 hi), fun id off ph he => ⟨fun hst => hc _ ((h.2 id off ph he).1 hst), (h.2 id off ph he).2⟩⟩

/-- R138: the engine stops on the work of c and then makes its choice, in a state u that has its engine but for that. -/
theorem State.engineChose_choose {s u : State} {c : WorkId → Bool} (hu : u.mse.engine = (s.stopEngineIf c).mse.engine) :
    EngineChose s u.chooseRequest (fun id => c id = true) := by
  obtain ⟨h1, h2⟩ := State.chooseRequest_chooses u
  have hidle : u.mse.engine = .idle →
      { u.chooseRequest with mse := { u.chooseRequest.mse with engine := .idle } }.Chooses u.chooseRequest.mse.engine := by
    intro hi
    rw [h1]
    refine h2.congr ?_ rfl rfl
    simp only [State.setEngine, State.setMse]
    rw [← hi]
  refine ⟨fun hi => hidle ?_, fun id off ph he => ⟨fun hst => hidle ?_, fun hst => ?_⟩⟩
  · simp [hu, State.stopEngineIf, hi]
  · simp [hu, State.stopEngineIf, he, hst, State.setEngine, State.setMse]
  · have : u.mse.engine = .working id off ph := by simp [hu, State.stopEngineIf, he, hst]
    rw [h2.1 id off ph this, this, he]

/-- The request of an entry is found where the queue holds no other of it. -/
theorem State.request?_sole {s : State} {r : Request} (h : r ∈ s.mse.queue) (hu : ∀ x ∈ s.mse.queue, x.id = r.id → x = r) :
    s.request? r.id = some r := by
  unfold State.request?
  cases hf : s.mse.queue.find? fun x => x.id == r.id with
  | none => have := List.find?_eq_none.1 hf r h; simp at this
  | some x =>
    have h1 := List.mem_of_find?_eq_some hf
    have h2 := List.find?_some hf
    rw [hu x h1 (by simpa using h2)]

end Sys2Proof.Machine
end

