-- ==== Sys2Proof/Laws/Run.lean ====
section
/-! SUPPORT. The record of a run, the reports of run-state changes, holds and closes: what each shared operation does (Chapter 1). -/

namespace Sys2Proof.Machine

/-! ## Parts no other law names -/

theorem State.active_eq (s : State) (n : Nest) : s.active n = decide ((s.run n).state = .active) := by
  unfold State.active; cases (s.run n).state <;> rfl

@[simp] theorem State.setQueue_queue (s : State) (q : List Request) : (s.setQueue q).mse.queue = q := rfl

@[simp] theorem State.setQueue_mse (s : State) (q : List Request) : (s.setQueue q).mse = { s.mse with queue := q } := rfl

@[simp] theorem State.setEngine_mse (s : State) (e : Engine) : (s.setEngine e).mse = { s.mse with engine := e } := rfl

/-- A choice of the engine changes the engine alone (R138). -/
theorem State.choose_mse (s : State) : s.chooseRequest.mse = { s.mse with engine := s.chooseRequest.mse.engine } := by
  unfold State.chooseRequest; split
  · rfl
  · split <;> rfl

@[simp] theorem State.choose_queue (s : State) : s.chooseRequest.mse.queue = s.mse.queue := by rw [State.choose_mse]

@[simp] theorem State.choose_ports (s : State) : s.chooseRequest.ports = s.ports := by simp

/-- R138: an engine that works after its choice worked before it, or works on a ready request of an ACTIVE nest. -/
theorem State.choose_engine {s : State} {id : WorkId} {off : Int} {ph : EnginePhase}
    (h : s.chooseRequest.mse.engine = .working id off ph) :
    s.mse.engine = .working id off ph ∨
      s.mse.engine = .idle ∧ ∃ r ∈ s.mse.queue, r.id = id ∧ r.ready = true ∧ s.active id.nest = true := by
  unfold State.chooseRequest at h
  split at h
  · exact .inl h
  · rename_i he
    split at h
    · rename_i r hr
      have hmem := List.mem_of_find?_eq_some hr
      have hp := List.find?_some hr
      simp only [Bool.and_eq_true] at hp
      simp only [State.startEngine, State.setEngine_mse, Engine.working.injEq] at h
      exact .inr ⟨he, r, hmem, h.1, hp.1, h.1 ▸ hp.2⟩
    · rw [he] at h; exact absurd h (by simp)

theorem State.stopEngine_mse (s : State) (c : WorkId → Bool) :
    (s.stopEngineIf c).mse = { s.mse with engine := (s.stopEngineIf c).mse.engine } := by
  unfold State.stopEngineIf; split
  · split <;> rfl
  · rfl

theorem State.stopEngine_engine {s : State} {c : WorkId → Bool} {id : WorkId} {off : Int} {ph : EnginePhase}
    (h : (s.stopEngineIf c).mse.engine = .working id off ph) : s.mse.engine = .working id off ph ∧ c id = false := by
  unfold State.stopEngineIf at h
  split at h
  · rename_i id' off' ph' he
    split at h
    · exact absurd h (by simp)
    · rename_i hc
      rw [he] at h
      rw [he]; injection h with h1 h2 h3; subst h1 h2 h3
      exact ⟨rfl, by simpa using hc⟩
  · rename_i he; rw [he] at h; exact absurd h (by simp)

/-! ## Withdrawals (R144, R145, R163, R164) -/

/-- Requests of c are withdrawn: the queue without them, and no engine working on one of them. -/
theorem State.withdrawRequests_mse (s : State) (c : WorkId → Bool) :
    (s.withdrawRequests c).mse =
      { s.mse with engine := (s.withdrawRequests c).mse.engine, queue := s.mse.queue.filter fun r => !c r.id } := by
  unfold State.withdrawRequests
  rw [State.choose_mse, State.stopEngine_mse]
  rfl

theorem State.withdrawRequests_engine {s : State} {c : WorkId → Bool} {id : WorkId} {off : Int} {ph : EnginePhase}
    (h : (s.withdrawRequests c).mse.engine = .working id off ph) : c id = false := by
  unfold State.withdrawRequests at h
  rcases State.choose_engine h with h | ⟨_, r, hr, rfl, _⟩
  · exact (State.stopEngine_engine h).2
  · rw [State.stopEngine_mse] at hr
    simpa using (List.mem_filter.mp hr).2

theorem State.mseHeld_mse (s : State) (n : Nest) :
    (s.mseBecameHeld n).mse = { s.mse with
      engine := (s.mseBecameHeld n).mse.engine
      queue := s.mse.queue.map fun r => if r.id.nest = n then { r with gate := r.gate.pause s.ms } else r } := by
  unfold State.mseBecameHeld
  rw [State.choose_mse, State.setQueue_mse, State.stopEngine_mse]

/-- R144: after a hold of its nest the engine works for no request of it. -/
theorem State.mseHeld_engine {s : State} {n : Nest} (hn : s.active n = false) : (s.mseBecameHeld n).engineOff n := by
  intro id off ph h hid
  unfold State.mseBecameHeld at h
  rcases State.choose_engine h with h | ⟨_, r, hr, rfl, _, ha⟩
  · have := (State.stopEngine_engine (s := s) (c := fun id => id.nest == n) (by simpa using h)).2
    simp [hid] at this
  · have : s.active r.id.nest = true := by simpa using ha
    rw [hid, hn] at this
    exact absurd this (by simp)

/-- R144: the engine's choice at a hold. -/
theorem State.mseHeld_chose (s : State) (n : Nest) : EngineChose s (s.mseBecameHeld n) (·.nest = n) := by
  have := State.engineChose_choose (s := s) (c := fun id => id.nest == n)
    (u := (s.stopEngineIf fun id => id.nest == n).setQueue
      (s.mse.queue.map fun r => if r.id.nest = n then { r with gate := r.gate.pause s.ms } else r)) rfl
  simpa [State.mseBecameHeld] using this

/-- R145, R146: the engine's choice when requests of c are withdrawn. -/
theorem State.withdrawRequests_chose (s : State) (c : WorkId → Bool) :
    EngineChose s (s.withdrawRequests c) (fun id => c id = true) := by
  refine State.engineChose_choose ?_
  unfold State.stopEngineIf
  cases he : s.mse.engine with
  | idle => simp [he]
  | working id off ph => cases hc : c id <;> simp [he, hc]

@[simp] theorem State.endRequests_mse (s : State) (l : List Request) (d : EntryDetail) : (s.endRequests l d).mse = s.mse := by
  unfold State.endRequests
  induction l generalizing s with
  | nil => rfl
  | cons r l ih => rw [List.foldl_cons, ih]; simp

/-- R136, R144: what the MSE does when a nest's run becomes ACTIVE. -/
theorem State.mseActive_does (s : State) (n : Nest) :
    (s.mseBecameActive n).mse =
      { s.mse with engine := (s.mseBecameActive n).mse.engine, queue := resumedQueue s.mse.queue n s.ms } ∧
    EngineChose s (s.mseBecameActive n) (fun _ => False) := by
  constructor
  · unfold State.mseBecameActive
    rw [State.choose_mse, State.endRequests_mse, State.setQueue_mse]
    simp only [resumedQueue]
    congr 2
    apply List.filter_congr
    intro r _
    by_cases h1 : r.id.nest = n <;> by_cases h2 : r.gate = .paused 0 <;> simp [h1, h2, RunTimer.spent]
  · have := State.engineChose_choose (s := s) (c := fun _ => false) (u := ((s.setQueue
      ((s.mse.queue.filter fun r => !(r.id.nest == n && r.gate.spent)).map fun r =>
        if r.id.nest = n then { r with gate := r.gate.resume s.ms } else r)).endRequests
        (s.mse.queue.filter fun r => r.id.nest == n && r.gate.spent) .gateTimeout)) (by
          rw [State.endRequests_mse]
          unfold State.stopEngineIf
          cases h : s.mse.engine <;> simp [h])
    simpa [State.mseBecameActive] using this

/-- PROMPT_WITHDRAWN, where the presented prompt is an ordinary one of c; the other ports are not touched. -/
theorem State.noticeWithdrawn_port (s : State) (c : WorkId → Bool) (n : Nest) (d : WithdrawDetail)
    (hn : ∀ id, c id = true → id.nest = n) :
    WithdrawnNotice s.pru (fun id => c id = true) n d (s.port .operator) ((s.noticeWithdrawn c d).port .operator) ∧
    ∀ m : Nest, (s.noticeWithdrawn c d).port m.port = s.port m.port := by
  unfold State.noticeWithdrawn WithdrawnNotice Pru.presents
  cases hp : s.pru.presented? with
  | none => simp
  | some y =>
    cases y with
    | system m x => simp
    | ordinary x =>
      have hw := List.find?_some hp
      obtain ⟨t, ht⟩ : ∃ t, x.pres = .presented t := by
        cases h : x.pres with
        | waiting => simp [AnyPrompt.pres, h] at hw
        | presented t => exact ⟨t, rfl⟩
      cases hc : c x.id with
      | false => simp [hc, ht]
      | true => simp [hc, ht, Presentation.ticket?, hn _ hc]

@[simp] theorem State.setPrompts_pru (s : State) (q : List Prompt) : (s.setPrompts q).pru = { s.pru with queue := q } := rfl

/-! ## Watches -/

theorem State.mapWatches_bus (s : State) (n : Nest) (f : Watch → Option Watch) :
    (s.mapWatches n f).bus n = { s.bus n with watches := (s.bus n).watches.map fun w => w.bind f } ∧
    (s.mapWatches n f).bus n.other = s.bus n.other := by simp [State.mapWatches]

theorem State.mapWatches_other (s : State) (n : Nest) (f : Watch → Option Watch) :
    (s.mapWatches n f).bus n.other = s.bus n.other := (State.mapWatches_bus s n f).2

/-! ## Holds and closes (R3, R6, R13) -/

/-- The ports of a state with the pru, bus, mse and stu of reports: what the reports post. -/
theorem State.port_station (s t : State) (h : t.ports = s.ports) (m : Port) : t.port m = s.port m := by simp [State.port, h]

theorem Option.bind_some_map {α : Type} (f : α → α) (a : Option α) : (a.bind fun w => some (f w)) = a.map f := by
  cases a <;> rfl

theorem State.port_sync (s : State) (p : Port) : s.syncGenerators.port p = s.port p := rfl

/-- R126 at became HELD. -/
theorem State.beuHeld_bus (s : State) (n : Nest) :
    (s.beuBecameHeld n).bus n = { s.bus n with
      watches := (s.bus n).watches.map fun w => w.map fun w => { w with window := w.window.pause s.ms } } := by
  simp only [State.beuBecameHeld, (State.mapWatches_bus _ n _).1, Option.bind_some_map]

/-- The report that a run became HELD, in a state in which it is. -/
theorem State.reportHeld_does (s : State) (n : Nest) (h : s.active n = false) :
    HeldIn s (s.reportHeld n) n ∧ (s.reportHeld n).bus n.other = s.bus n.other ∧
    (∀ m : Nest, (s.reportHeld n).port m.port = s.port m.port) ∧
    WithdrawnNotice s.pru (fun id => id.nest = n) n .held (s.port .operator) ((s.reportHeld n).port .operator) := by
  have hport := State.noticeWithdrawn_port (((s.paceHeld n).syncGenerators).mseBecameHeld n) (fun id => id.nest == n) n .held
    (by simp)
  refine ⟨⟨?_, ?_, ?_, ?_, ?_, ?_, ?_, ?_⟩, ?_, ?_, ?_⟩
  · intro c
    have hsame : ((s.reportHeld n).chan c).sameRecord (s.chan c) := by
      simp only [State.reportHeld, State.beuBecameHeld_keeps, State.pruBecameHeld_keeps, State.mseBecameHeld_keeps]
      refine Channel.sameRecord_trans (State.chan_sync_same _ c) ?_
      simp [State.paceHeld, Channel.sameRecord_rfl]
    refine ⟨hsame, fun ho => ?_⟩
    rw [State.output_eq, Channel.sameRecord_output hsame, Channel.output, ho]
    simp [h]
  · intro c
    refine GeneratorsAdopt.congr (GeneratorsAdopt_sync (s := s) (t := s.paceHeld n) ?_ ?_ ?_) rfl rfl ?_ ?_
    · simp [State.paceHeld]
    · simp [State.paceHeld]
    · simp [State.paceHeld]
    · simp [State.reportHeld]
    · simp [State.reportHeld, State.output_eq]
  · simp [State.reportHeld, State.paceHeld]
  · simp only [State.reportHeld, State.beuBecameHeld_keeps, State.pruBecameHeld_keeps]
    rw [State.mseHeld_mse]
    simp [State.paceHeld]
  · simp only [State.reportHeld, State.engineOff, State.beuBecameHeld_keeps, State.pruBecameHeld_keeps]
    exact State.mseHeld_engine (by simp [State.paceHeld, h])
  · refine EngineChose.congr (State.mseHeld_chose ((s.paceHeld n).syncGenerators) n) ?_ ?_ ?_ ?_ <;>
      simp [State.reportHeld, State.paceHeld]
  · simp [State.reportHeld, State.pruBecameHeld, State.paceHeld]
  · simp only [State.reportHeld, State.beuHeld_bus]
    simp [State.paceHeld]
  · simp [State.reportHeld, State.beuBecameHeld, State.mapWatches_other]
  · intro m
    simp only [State.reportHeld, State.beuBecameHeld_keeps, State.pruBecameHeld, State.setPrompts_keeps, hport.2]
    simp [State.paceHeld]
  · have := hport.1
    simp only [State.mseBecameHeld_keeps, State.port_sync] at this
    simpa [State.reportHeld, State.pruBecameHeld, State.paceHeld] using this

/-- A hold: the record, the reactions of the STU, MSE, PRU and BEU, and the notices. -/
theorem State.holdRun_does (s : State) (n : Nest) (d : RunDetail) :
    (s.holdRun n d).run n = { s.run n with state := .held } ∧ HeldIn s (s.holdRun n d) n ∧ SameBeside s (s.holdRun n d) n ∧
    (s.holdRun n d).fix n = s.fix n ∧ (s.holdRun n d).port n.port = (s.port n.port).post ⟨n, .runState .held d⟩ ∧
    (s.holdRun n d).port n.other.port = s.port n.other.port ∧
    WithdrawnNotice s.pru (fun id => id.nest = n) n .held (s.port .operator) ((s.holdRun n d).port .operator) := by
  have h := State.reportHeld_does (s.setRun n { s.run n with state := .held }) n (by simp [State.active_eq])
  obtain ⟨⟨h1, hg, h2, h3, h4, he, h5, h6⟩, h7, h8, h9⟩ := h
  refine ⟨by simp [State.holdRun], ⟨?_, ?_, ?_, ?_, ?_, ?_, ?_, ?_⟩, ?_, by simp [State.holdRun], ?_, ?_, ?_⟩
  · simpa [State.holdRun, State.output_eq] using h1
  · intro c
    refine GeneratorsAdopt.congr (hg c) ?_ ?_ ?_ ?_ <;> simp [State.holdRun, State.output_eq]
  · simpa [State.holdRun] using h2
  · simpa [State.holdRun] using h3
  · simpa [State.holdRun, State.engineOff] using h4
  · refine EngineChose.congr he ?_ ?_ ?_ ?_ <;> simp [State.holdRun]
  · simpa [State.holdRun] using h5
  · simpa [State.holdRun] using h6
  · simp [SameBeside, State.holdRun, h7]
  · simp [State.holdRun, h8]
  · simp [State.holdRun, h8]
  · simpa [State.holdRun] using h9

/-! ## Closes -/

/-- R6 steps 1 to 4 on the record. -/
theorem Rnc.close_eq (r : Rnc) (cause : EndCause) (clock : Quad) :
    r.close cause clock = r.closedBy cause.closedState cause cause.entryDetail (r.close cause clock).verdict clock := by
  simp only [Rnc.close, Rnc.settlePending, Rnc.closedBy, Entry.isPending, Entry.noResult, beq_iff_eq]

theorem Vector.map_none {α β : Type} {n : Nat} (v : Vector (Option α) n) :
    (v.map fun w => w.bind fun _ => (none : Option β)) = Vector.replicate n none := by
  ext i hi; simp

/-- The report that a run closed. -/
theorem State.reportClosed_does (s : State) (n : Nest) (d : WithdrawDetail) :
    ClosedIn s (s.reportClosed n d) n s.pru ∧ (s.reportClosed n d).bus n.other = s.bus n.other ∧
    GrantedAtClose s (s.reportClosed n d) n ∧ (s.reportClosed n d).port n.port = s.port n.port ∧
    WithdrawnNotice s.pru (fun id => id.nest = n) n d (s.port .operator) ((s.reportClosed n d).port .operator) := by
  have hport := State.noticeWithdrawn_port (((s.paceClosed n).giveUpWhere n fun _ => true).mseClosed n) (fun id => id.nest == n) n d
    (by simp)
  have hgive := State.port_giveUp (s.paceClosed n) n fun _ => true
  refine ⟨⟨?_, ?_, ?_, ?_, ?_, ?_, ?_, ?_⟩, ?_,
    ⟨maskOf fun c => (s.chan c).owner == some n && (s.chan c).waiter == some n.other, ?_, ?_⟩, ?_, ?_⟩
  · intro c
    have := State.chan_giveUp (s.paceClosed n) n (fun _ => true) c
    simpa [State.reportClosed, State.paceClosed] using this
  · intro c
    refine GeneratorsAdopt.congr (State.adopt_giveUp (s.paceClosed n) n (fun _ => true) c) ?_ ?_ ?_ ?_ <;>
      simp [State.reportClosed, State.paceClosed, State.output_eq]
  · simp [State.reportClosed, State.paceClosed]
  · simp only [State.reportClosed, State.withdrawWatches_keeps, State.withdrawPrompts_keeps, State.mseClosed]
    rw [State.withdrawRequests_mse]
    simp [State.paceClosed, bne]
  · intro id off ph h hid
    simp only [State.reportClosed, State.withdrawWatches_keeps, State.withdrawPrompts_keeps, State.mseClosed] at h
    simpa [hid] using State.withdrawRequests_engine h
  · have := State.withdrawRequests_chose ((s.paceClosed n).giveUpWhere n fun _ => true) fun id => id.nest == n
    simp only [beq_iff_eq] at this
    refine EngineChose.congr this ?_ ?_ ?_ ?_ <;> simp [State.reportClosed, State.mseClosed, State.paceClosed]
  · simp [State.reportClosed, State.withdrawPrompts, State.paceClosed, bne]
  · simp only [State.reportClosed, State.withdrawWatches, (State.mapWatches_bus _ n _).1, if_true, Vector.map_none]
    simp [State.paceClosed]
  · simp [State.reportClosed, State.withdrawWatches, State.mapWatches_other]
  · exact MaskOf_maskOf (by simp)
  · simp only [State.reportClosed, State.withdrawWatches_keeps, State.withdrawPrompts, State.setPrompts_keeps, hport.2,
      State.mseClosed_keeps, hgive.1]
    simp [State.paceClosed]
  · simp only [State.reportClosed, State.withdrawWatches_keeps, State.withdrawPrompts, State.setPrompts_keeps, hport.2,
      State.mseClosed_keeps, hgive.2.1]
    simp [State.paceClosed]
  · have := hport.1
    simp only [State.mseClosed_keeps, hgive.2.2] at this
    simpa [State.reportClosed, State.withdrawPrompts, State.paceClosed] using this

/-- R6: a close: the record, what the other blocks withdraw, and the notices. -/
theorem State.closeRun_does (s : State) (n : Nest) (cause : EndCause) :
    (s.closeRun n cause).run n = (s.run n).close cause s.clock ∧ ClosedIn s (s.closeRun n cause) n s.pru ∧
    SameBeside s (s.closeRun n cause) n ∧ (s.closeRun n cause).fix n = s.fix n ∧ GrantedAtClose s (s.closeRun n cause) n ∧
    (s.closeRun n cause).port n.port = (s.port n.port).post ⟨n, .runState cause.closedState cause.runDetail⟩ ∧
    WithdrawnNotice s.pru (fun id => id.nest = n) n cause.withdrawDetail (s.port .operator)
      ((s.closeRun n cause).port .operator) := by
  have h := State.reportClosed_does (s.setRun n ((s.run n).close cause s.clock)) n cause.withdrawDetail
  obtain ⟨⟨h1, hg, h2, h3, h4, he, h5, h6⟩, h7, ⟨m, h8, h8'⟩, h9, h10⟩ := h
  refine ⟨by simp [State.closeRun], ⟨?_, ?_, ?_, ?_, ?_, ?_, ?_, ?_⟩, ?_, by simp [State.closeRun], ⟨m, by simpa using h8, ?_⟩, ?_, ?_⟩
  · simpa [State.closeRun] using h1
  · intro c
    refine GeneratorsAdopt.congr (hg c) ?_ ?_ ?_ ?_ <;> simp [State.closeRun, State.output_eq]
  · simpa [State.closeRun] using h2
  · simpa [State.closeRun] using h3
  · simpa [State.closeRun, State.engineOff] using h4
  · refine EngineChose.congr he ?_ ?_ ?_ ?_ <;> simp [State.closeRun]
  · simpa [State.closeRun] using h5
  · simpa [State.closeRun] using h6
  · simp [SameBeside, State.closeRun, h7]
  · simp [State.closeRun, h8']
  · simp [State.closeRun, h9]
  · simpa [State.closeRun] using h10

end Sys2Proof.Machine
end

