-- ==== Sys2Proof/Laws/Fixture.lean ====
section
/-! SUPPORT. Results at a record, and the entry of a fixture into FAULT (R19, R20, R41). -/

namespace Sys2Proof.Machine

/-! ## Results and progress reports (R19, R20) -/

theorem Rnc.pendingEntry?_some {r : Rnc} {serial : BitVec 16} {seq : Nat} {e : Entry} (hs : serial = r.serial)
    (he : r.entry? seq = some e) (hp : e.outcome = .pending) : r.pendingEntry? serial seq = some e := by
  simp [Rnc.pendingEntry?, hs, he, Option.filter, Entry.isPending, hp]

theorem Rnc.pendingEntry?_none {r : Rnc} {serial : BitVec 16} {seq : Nat}
    (h : serial ≠ r.serial ∨ ∀ e, r.entry? seq = some e → e.outcome ≠ .pending) : r.pendingEntry? serial seq = none := by
  unfold Rnc.pendingEntry?
  split
  · rename_i hs
    rcases h with h | h
    · exact absurd hs h
    · cases he : r.entry? seq with
      | none => rfl
      | some e => simp [Option.filter, Entry.isPending, h e he]
  · rfl

/-- R19: the result of work whose entry is PENDING settles it and posts ENTRY_DONE. -/
theorem State.result_settles {s : State} {id : WorkId} {e : Entry} (hs : id.serial = (s.run id.nest).serial)
    (he : (s.run id.nest).entry? id.seq = some e) (hp : e.outcome = .pending) (x : WorkResult) :
    s.result id x = (s.setRun id.nest ((s.run id.nest).setEntry id.seq (e.settle x s.clock))).postStation id.nest
      (.entryDone id.seq x.outcome) := by
  simp [State.result, Rnc.pendingEntry?_some hs he hp]

/-- R19: any other result is discarded. -/
theorem State.result_discarded {s : State} {id : WorkId}
    (h : id.serial ≠ (s.run id.nest).serial ∨ ∀ e, (s.run id.nest).entry? id.seq = some e → e.outcome ≠ .pending)
    (x : WorkResult) : s.result id x = s := by
  simp [State.result, Rnc.pendingEntry?_none h]

theorem State.progress_taken {s : State} {id : WorkId} {e : Entry} (hs : id.serial = (s.run id.nest).serial)
    (he : (s.run id.nest).entry? id.seq = some e) (hp : e.outcome = .pending) (k : Nat) :
    s.progress id k = s.setRun id.nest ((s.run id.nest).setEntry id.seq { e with attempts := k }) := by
  simp [State.progress, Rnc.pendingEntry?_some hs he hp]

theorem State.progress_discarded {s : State} {id : WorkId}
    (h : id.serial ≠ (s.run id.nest).serial ∨ ∀ e, (s.run id.nest).entry? id.seq = some e → e.outcome ≠ .pending) (k : Nat) :
    s.progress id k = s := by
  simp [State.progress, Rnc.pendingEntry?_none h]

/-! ## Faults (R41) -/

theorem Fxc.faulted_eq (f : Fxc) (c : FaultCause) : f.faulted c = { f with
    state := .fault, clampTimer := .stopped, releaseTimer := .stopped, cause := c, permit := false, scan := none
    scanResult := if f.scan.isSome then .abandoned else f.scanResult
    firstFail := if f.scan.isSome then none else f.firstFail } := by
  unfold Fxc.faulted Fxc.abandonScan
  cases h : f.scan <;> simp [h]

/-- What a prompt placed in an empty slot does to the prompts of the PRU. -/
theorem Pru.all_place (u : Pru) (n : Nest) (x : SysPrompt) (c : BitVec 16) (h : u.slots.get n = none) (hx : x.pres = .waiting) :
    let v : Pru := { u with slots := u.slots.set n (some x), arrivals := c }
    v.presented? = u.presented? ∧
    (u.presented? = none → ∀ a, u.presentableSet a = [] → v.firstPresentable? a = some (.system n x)) := by
  have hp : (AnyPrompt.system n x).pres = .waiting := hx
  have hready : ∀ a, (AnyPrompt.system n x).presentable a = true := fun a => by simp [AnyPrompt.presentable, hx]
  cases n with
  | a =>
    have ha : u.slots.a = none := h
    refine ⟨?_, fun _ a hn => ?_⟩
    · simp [Pru.presented?, Pru.all, Pru.systems, PerNest.set, ha, hp]
    · have hall : ({ u with slots := u.slots.set .a (some x), arrivals := c } : Pru).all = .system .a x :: u.all := by
        simp [Pru.all, Pru.systems, PerNest.set, ha]
      simp only [Pru.presentableSet] at hn
      simp [Pru.firstPresentable?, Pru.presentableSet, hall, hready, hn, firstPrompt]
  | b =>
    have hb : u.slots.b = none := h
    refine ⟨?_, fun hnone a hn => ?_⟩
    · simp [Pru.presented?, Pru.all, Pru.systems, PerNest.set, hb, List.find?_append, hp]
    · simp only [Pru.presentableSet, Pru.all, Pru.systems, hb, Option.map_none, Option.toList_none, List.append_nil,
        List.filter_append, List.append_eq_nil_iff] at hn
      simp [Pru.firstPresentable?, Pru.presentableSet, Pru.all, Pru.systems, PerNest.set, List.filter_append, hready, hn, firstPrompt]

theorem State.postSystemPrompt_pru (s : State) (n : Nest) (c : FaultCause) :
    (s.postSystemPrompt n c).pru = { s.pru with
      slots := s.pru.slots.set n (some ⟨4000 + c.num, s.pru.arrivals, .waiting⟩), arrivals := s.pru.arrivals + 1#16 } := by
  simp [State.postSystemPrompt]

theorem State.announce_station (s : State) (b : Bool) (m : Nest) : (s.announce b).port m.port = s.port m.port := by
  unfold State.announce; split
  · split <;> simp
  · rfl

theorem State.postSystemPrompt_station (s : State) (n : Nest) (c : FaultCause) (m : Nest) :
    (s.postSystemPrompt n c).port m.port = s.port m.port := by
  simp [State.postSystemPrompt, State.announce_station]

/-- R151, R157: PROMPT_READY for a system prompt placed in an empty slot. -/
theorem State.postSystemPrompt_operator (s : State) (n : Nest) (c : FaultCause) (h : s.awaitsOperator n = false) :
    (s.postSystemPrompt n c).port .operator =
      if s.pru.presented? = none ∧ s.pru.presentableSet s.active = [] then (s.port .operator).post ⟨n, .promptReady .system⟩
      else s.port .operator := by
  have hslot : s.pru.slots.get n = none := by simpa [State.awaitsOperator] using h
  have hall := Pru.all_place s.pru n ⟨4000 + c.num, s.pru.arrivals, .waiting⟩ (s.pru.arrivals + 1#16) hslot rfl
  unfold State.postSystemPrompt State.announce
  simp only [State.setPru_pru, hall.1, Pru.noneReady, State.setPru_keeps]
  by_cases h1 : s.pru.presented? = none
  · by_cases h2 : s.pru.presentableSet s.active = []
    · have := hall.2 h1 s.active h2
      simp [h1, h2, this, AnyPrompt.nest, AnyPrompt.readyDetail]
    · simp [h1, h2]
  · have : s.pru.presented?.isNone = false := by
      cases hp : s.pru.presented? with
      | none => exact absurd hp h1
      | some _ => rfl
    simp [h1, this]

theorem State.presents_place (s : State) (n : Nest) (c : FaultCause) (h : s.awaitsOperator n = false) :
    (s.postSystemPrompt n c).pru.presented? = s.pru.presented? := by
  have hslot : s.pru.slots.get n = none := by simpa [State.awaitsOperator] using h
  rw [State.postSystemPrompt_pru]
  exact (Pru.all_place s.pru n ⟨4000 + c.num, s.pru.arrivals, .waiting⟩ (s.pru.arrivals + 1#16) hslot rfl).1

/-- R41: the entry into FAULT does everything the rule says, and nothing else. -/
theorem State.enterFault_does (s : State) (n : Nest) (c : FaultCause) : FaultedIn s (s.enterFault n c) n c := by
  unfold FaultedIn
  have hport : ((((s.setFix n ((s.fix n).faulted c)).postFixture n (.fault c)).postSystemPrompt n c).port n.port) =
      (s.port n.port).post ⟨n, .fixtureState .fault (.fault c)⟩ := by
    simp [State.postSystemPrompt_station, State.postFixture, Fxc.faulted_eq]
  have hother : ((((s.setFix n ((s.fix n).faulted c)).postFixture n (.fault c)).postSystemPrompt n c).port n.other.port) =
      s.port n.other.port := by
    simp [State.postSystemPrompt_station, State.postFixture]
  have hop : s.awaitsOperator n = false →
      (((s.setFix n ((s.fix n).faulted c)).postFixture n (.fault c)).postSystemPrompt n c).port .operator =
        if s.pru.presented? = none ∧ s.pru.presentableSet s.active = [] then (s.port .operator).post ⟨n, .promptReady .system⟩
        else s.port .operator := by
    intro h
    rw [State.postSystemPrompt_operator]
    · simp [State.postFixture]
    · simpa [State.awaitsOperator, State.postFixture] using h
  have hpres : s.awaitsOperator n = false →
      (((s.setFix n ((s.fix n).faulted c)).postFixture n (.fault c)).postSystemPrompt n c).pru.presented? = s.pru.presented? := by
    intro h
    rw [State.presents_place]
    · simp [State.postFixture]
    · simpa [State.awaitsOperator, State.postFixture] using h
  have hcl := State.closeRun_does (((s.setFix n ((s.fix n).faulted c)).postFixture n (.fault c)).postSystemPrompt n c) n
    (if c = .stop then .stop else .fixture)
  obtain ⟨k1, ⟨k2, kg, k3, k4, k5, ke, k6, k7⟩, k8, k9, ⟨m, k10, k10'⟩, k11, k12⟩ := hcl
  have henter : s.enterFault n c = if (s.run n).state.isOpen then
      (((s.setFix n ((s.fix n).faulted c)).postFixture n (.fault c)).postSystemPrompt n c).closeRun n
        (if c = .stop then .stop else .fixture)
      else (((s.setFix n ((s.fix n).faulted c)).postFixture n (.fault c)).postSystemPrompt n c) := by
    simp [State.enterFault, State.faultReport]
  cases hopen : (s.run n).state.isOpen with
  | false =>
    rw [henter]
    simp only [hopen, Bool.false_eq_true, if_false]
    refine ⟨by simp [State.postFixture, Fxc.faulted_eq], by simp [SameBeside, State.postFixture],
      fun _ => ⟨?_, hport, hother, ?_, ?_, ?_, ?_⟩, nofun, fun h => ⟨fun _ => hop h, nofun⟩⟩
    · simp [State.postFixture]
    · simp [State.postFixture]
    · simp [State.postFixture]
    · rw [State.postSystemPrompt_pru]; simp [State.postFixture]
    · simp [State.postFixture]
  | true =>
    rw [henter]
    simp only [hopen, if_true]
    refine ⟨?_, ?_, nofun, fun _ => ⟨?_, ?_, ⟨m, ?_, ?_⟩, ⟨?_, ?_, ?_, ?_, ?_, ?_, ?_, ?_⟩⟩, fun h => ⟨nofun, fun _ => ?_⟩⟩
    · rw [k9]; simp [State.postFixture, Fxc.faulted_eq]
    · simpa [SameBeside, State.postFixture] using k8
    · rw [k1, Rnc.close_eq]
      by_cases hc : c = .stop <;> simp [hc, EndCause.closedState, EndCause.entryDetail, State.postFixture, Rnc.close]
    · rw [k11, hport]
      by_cases hc : c = .stop <;> simp [hc, EndCause.closedState, EndCause.runDetail]
    · simpa [State.postFixture] using k10
    · rw [k10', hother]
    · simpa [State.postFixture] using k2
    · intro c
      refine GeneratorsAdopt.congr (kg c) ?_ ?_ rfl rfl <;> simp [State.postFixture]
    · simpa [State.postFixture] using k3
    · simpa [State.postFixture] using k4
    · exact k5
    · exact EngineChose.congr ke (by simp [State.postFixture]) rfl rfl rfl
    · rw [k6, State.postSystemPrompt_pru]; simp [State.postFixture]
    · simpa [State.postFixture] using k7
    · have hp := hpres h
      rw [hop h] at k12
      simp only [WithdrawnNotice, Pru.presents, hp] at k12
      by_cases hc : c = .stop <;> simpa [hc, WithdrawnNotice, Pru.presents, EndCause.withdrawDetail] using k12

end Sys2Proof.Machine
end

