-- ==== Sys2Proof/Laws/Formats.lean ====
section
/-! SUPPORT. Words: bit fields of packed words, flags, and 32-bit quantities. -/

namespace Sys2Proof.Machine

theorem flagBit_eq (w : Word) (k : Nat) : flagBit w k = decide (bitField w k 1 = 1) := by
  show w.toNat.testBit k = decide (w.toNat / 2 ^ k % 2 = 1)
  exact Nat.testBit_eq_decide_div_mod_eq

theorem bitField_lt (w : Word) (lo width : Nat) : bitField w lo width < 2 ^ width := Nat.mod_lt _ (Nat.two_pow_pos width)

/-- The whole of a packed word as a number; its fields follow from it by arithmetic. -/
theorem toNat_packWord (l : List (Nat × Nat × Nat)) :
    (packWord l).toNat = (l.map fun f => f.1 % 2 ^ f.2.2 * 2 ^ f.2.1).sum % 65536 := by simp [packWord]

theorem flagNat_lt (b : Bool) : flagNat b < 2 := by cases b <;> decide

theorem flagNat_eq_one (b : Bool) : decide (flagNat b = 1) = b := by cases b <;> decide

theorem quadOf_words (q : Quad) : quadOf (highWord q) (lowWord q) = q := by
  refine BitVec.eq_of_getLsbD_eq fun i hi => ?_
  unfold quadOf highWord lowWord
  rw [BitVec.getLsbD_append, BitVec.getLsbD_extractLsb', BitVec.getLsbD_extractLsb']
  split
  · simp_all
  · have : 16 + (i - 16) = i := by omega
    simp_all
    omega

theorem highWord_quadOf (a b : Word) : highWord (quadOf a b) = a := by
  ext i hi
  simp only [highWord, quadOf, BitVec.getElem_extractLsb']
  rw [BitVec.getLsbD_append]
  simp [BitVec.getLsbD_eq_getElem hi]

theorem lowWord_quadOf (a b : Word) : lowWord (quadOf a b) = b := by
  ext i hi
  simp only [lowWord, quadOf, BitVec.getElem_extractLsb']
  rw [BitVec.getLsbD_append]
  simp [hi]

end Sys2Proof.Machine
end

