-- ==== Sys2Proof/Laws/Trigger.lean ====
section
/-! SUPPORT. The delivery of an edge (R75, R94, R135). -/

namespace Sys2Proof.Machine

theorem Request.takeEdge_eq (r : Request) (l : Fin 4) (inc act : Bool) :
    r.takeEdge l inc act = if r.gateLine = l ∧ inc = true ∧ act = true ∧ r.seen = false then { r with seen := true, gate := .stopped }
      else r := by
  simp [Request.takeEdge]

/-- An edge reaches the channels and the requests that select it, and nothing else. -/
theorem State.deliverEdge_does (s : State) (l : Fin 4) (e : Edge) : EdgeDelivered s (s.deliverEdge l e) l e := by
  refine ⟨?_, fun c => ?_, ?_⟩
  · have hstu : (s.deliverEdge l e).stu = { s.stu with chans := (s.deliverEdge l e).stu.chans } := by
      simp only [State.deliverEdge, State.edgeToRequests_keeps]; rfl
    have hmse : (s.deliverEdge l e).mse =
        { s.mse with engine := (s.deliverEdge l e).mse.engine, queue := (s.deliverEdge l e).mse.queue } := by
      simp only [State.deliverEdge, State.edgeToRequests]
      rw [State.choose_mse]
      simp [State.edgeToChannels]
    refine State.ext_parts ?_ ?_ ?_ ?_ ?_ ?_ ?_ hstu ?_ ?_ hmse ?_ ?_ <;> simp [State.deliverEdge]
  · simp only [State.deliverEdge, State.edgeToRequests_keeps]
    have h := State.chan_commitWhere s (fun _ ch => ch.source == .line && ch.line == l && ch.edge.includes e) c
    simpa [State.edgeToChannels, and_assoc] using h
  · simp [State.deliverEdge, State.edgeToRequests, State.edgeToChannels, Request.takeEdge_eq]

end Sys2Proof.Machine
end

