-- ==== Sys2Proof/Tests/Slice0.lean ====
section
/-! SUPPORT. Small checks of the model: ill-formed events, decoded words, single steps, and for each statement with hypotheses a state
and operands that meet them. -/

namespace Sys2Proof.Machine.Tests

/-! ## States the tests are built from -/

/-- Port p READY with a write transaction at slot 0 and its first PARAM words. -/
def cmd (p : Port) (l : List Word) (s : State) : State :=
  s.setPort p { s.port p with spi := some ⟨true, 0⟩, params := Vector.ofFn fun i => l.getD i.val 0#16 }

/-- Port p in a mode, with its transaction at a slot. -/
def inMode (p : Port) (write : Bool) (slot : Nat) (m : PortMode) (s : State) : State :=
  s.setPort p { s.port p with spi := some ⟨write, slot⟩, mode := m }

/-- Nest A's fixture in a state. -/
def fixture (st : FixtureState) : Fxc :=
  { Fxc.powerOn with state := st, home := false, closed := true, pressure := true }

def nestA (f : Fxc) : State := State.reset.setFix .a f

/-- Nest A CONTACTED, with its run in a state. -/
def runA (st : RunState) : State := (nestA (fixture .contacted)).setRun .a { Rnc.idle 1#16 with state := st, openTime := some 0#32 }

/-- A PENDING entry in nest A's ACTIVE run. -/
def oneEntry (k : EntryKind) : State :=
  (runA .active).setRun .a { (runA .active).run .a with entries := [.created k 7#16 none] }

def line (r : Role) (q : Path) (mark : Bool) : Line := ⟨r, q, mark, 0, false⟩

/-- PL0 is a BUS line, PL1 a sense line of SI0. -/
def wired : Fxc := { fixture .contacted with
  lines := ((Vector.replicate 32 Line.unusedLine).set 0 (line .bus .primary true)).set 1 (line (.sense 0) .primary false) }

def scanning (x : ScanTarget) : Scan :=
  ⟨x, 20, [1], [0, 1], Vector.replicate 32 .primary, (Vector.replicate 32 false).set 0 true, Vector.replicate 6 none, [], none, []⟩

def inScan (x : ScanTarget) (ms : Nat) : State :=
  { nestA { wired with state := .scanning, scan := some (scanning x) } with ms := ms }

/-- SC8 owned by nest A. -/
def owned (ch : Channel) : State := (runA .active).setChan 8 { ch with owner := some .a }

def request (k : MeasureKind) (g : EdgeSel) : Request :=
  ⟨⟨.a, 1#16, 1⟩, k, 0, 0, 1, 0, g, false, 0, 10, 0#32, 100#32, false, if g = .none then .stopped else .running 5⟩

def measuring (k : MeasureKind) (ph : EnginePhase) (ms : Nat) : State :=
  let s := oneEntry .measure
  { s with ms := ms, mse := { s.mse with queue := [request k .none], engine := .working ⟨.a, 1#16, 1⟩ 0 ph } }

def prompt (set : AnswerSet) (attempts : Nat) (x : Presentation) (t : Timer) : Prompt :=
  ⟨⟨.a, 1#16, 1⟩, 7#16, 12, set, false, [], 1, 0#16, attempts, 0#16, x, t⟩

def asked (y : Prompt) (ms : Nat) : State :=
  let s := oneEntry .prompt
  { s with ms := ms, pru := { s.pru with queue := [y] } }

def fault : State :=
  let s := nestA { fixture .fault with cause := .stop }
  { s with pru := { s.pru with slots := ⟨some ⟨4005, 0#16, .presented 9⟩, none⟩, nextTicket := 10 } }

def onBus (b : Beu) : State := (runA .active).setBus .a b

def watch (k : WatchKind) (t : RunTimer) : Watch := ⟨k, 5#11, [⟨0, 1#8⟩], 1#16, 1, t⟩

def replyEntry (x : Reservation) (delay : Nat) : Reply :=
  { Reply.cleared with matchId := 5#11, reservation := x, oneShot := true, delay := delay }

def replying (x : Reservation) (delay : Nat) (sched : List Scheduled) : State :=
  onBus { Beu.cleared with link := .active, replies := (Vector.replicate 16 Reply.cleared).set 0 (replyEntry x delay), sched := sched }

def scheduled : Scheduled := ⟨0, .deferFirst, 0⟩

def queued : TxFrame := ⟨⟨5#11, [1#8]⟩, .reply 0, 7⟩

def sending (x : TxState) : State := onBus { Beu.cleared with link := .active, txq := [queued], tx := x }

/-! ## Ill-formed events (WellFormed.lean), each refused by its check -/

theorem smoke_undefinedCommand : (Instr.undefinedCommand .stationA 0x0001#16).wf = false := by decide
theorem smoke_pulsePeriodEnd : (Instr.pulsePeriodEnd 7).wf = false := by decide
theorem smoke_frameArrival : (Instr.frameArrival .a .good ⟨0#11, List.replicate 9 0#8⟩).wf = false := by decide
theorem smoke_replyDue : (Instr.replyDue .a 8).wf = false := by decide
theorem smoke_gateTimerExpiry : (Instr.gateTimerExpiry .a 0).wf = false ∧ (Instr.gateTimerExpiry .a 129).wf = false := by decide
theorem smoke_senseInputCrossing : (Instr.senseInputCrossing .a 0 0 1000).wf = false := by decide
theorem smoke_wellFormed : ∀ i ∈ [Instr.undefinedCommand .stationA 0x0000#16, .pulsePeriodEnd 8,
    .frameArrival .a .good ⟨0#11, List.replicate 8 0#8⟩, .replyDue .a 7, .gateTimerExpiry .a 128, .senseInputCrossing .a 0 0 999],
    i.wf = true := by decide

/-! ## Words and single steps -/

theorem test_commandWord : decodeWrite .stationA 0 0x0020#16 = .clamp .stationA := by decide
theorem test_portControlWord : decodeWrite .operator 24 0x0003#16 = .portReset .operator true := by decide
/-- R179: after POST VERDICT with PARAM 2 at 0xFFFF its reserved bits read 0; a word written anew reads back whole. -/
theorem test_paramReadBack : ∃ t u, exec (.postVerdict .stationA) (cmd .stationA [7#16, 1#16, 0xFFFF#16, 5#16] (runA .active)) = .next t ∧
    (t.port .stationA).readSlot 4 = 0x0001#16 ∧ (t.port .stationA).readSlot 5 = 5#16 ∧
    exec (.windowWrite .stationA 0xFFFF#16) (inMode .stationA true 4 .ready t) = .next u ∧
    (u.port .stationA).readSlot 4 = 0xFFFF#16 := ⟨_, _, rfl, by decide, by decide, rfl, by decide⟩
theorem test_noTableWord : decodeTableWord 16 0 = none := rfl
theorem test_emptyQueue : step State.reset = .next State.reset := rfl
theorem test_statusWordAfterReset : (State.reset.port .stationA).status = 0#16 := by decide
theorem test_statusWordStale : ((State.reset.port .operator).complete .stale []).status = 0x0704#16 := by decide
theorem test_clampThenAnswer : ∃ t u, exec (.clamp .stationA) (cmd .stationA [] State.reset) = .next t ∧
    exec (.commandAnswer .stationA .awaited) t = .next u ∧ (u.port .stationA).mode = .ready ∧ (u.port .stationA).code = .ok ∧
    (u.fix .a).state = .closing ∧ (u.fix .a).clampTimer = .running 1500 := ⟨_, _, rfl, rfl, by decide⟩
/-- The profile of R98 for N = 8. -/
theorem test_sweepProfile : (List.range 8).map (sweepProfile 8) = [0, 1, 2, 1, 0, -1, -2, -1] := by decide
/-- R97's example: B = 7001 and N = 8 give 3500 and -3500. -/
theorem test_sweepQuotient :
    ({ Channel.powerOn with mode := .sweep, stagedA := 4000, stagedB := 7001, sweepN := 8, pos := 1 } : Channel).sweepSum = 7500 ∧
    ({ Channel.powerOn with mode := .sweep, stagedA := 4000, stagedB := 7001, sweepN := 8, pos := 5 } : Channel).sweepSum = 500 := by
  decide
/-- R140's example: 5012, 5015, 5011 and 5013 mV with an offset of 14 mV measure 4998. -/
theorem test_levelValue : measuredValue { request .level .none with corrected := true, amount := 4 } 14 0 (.samples 20051 4) = 4998 := by
  decide
/-- R141's examples. -/
theorem test_windowValues : measuredValue { request .duty .none with amount := 400 } 0 400 (.window false 1 100000 0) = 250 ∧
    measuredValue { request .freq .none with amount := 1000 } 0 1000 (.window false 100 0 0) = 1000 := by decide
/-- R141: a change at the very start of a window gives its first level and is no edge. -/
theorem test_windowStart : crossWindow 5000 5000 2000 true 0 0 5000 = .window false 0 0 5000 ∧
    crossWindow 5000 5000 2501 false 0 0 5000 = .window true 0 0 5000 ∧ crossWindow 5000 5001 2501 false 0 0 5000 = .window true 1 0 5001 ∧
    crossWindow 5000 5001 2000 true 0 0 5000 = .window true 0 0 5000 := by decide
/-- Table 10-8: two payload bytes per word, the lower-numbered in bits 15:8. -/
theorem test_payload : (payloadOf 0x0102#16 0x0304#16 0x0506#16 0x0708#16).toList = [1, 2, 3, 4, 5, 6, 7, 8] := by decide
/-- R85 and Table 1-5: a hold puts out the safe value. -/
theorem test_holdSafe : (owned { Channel.powerOn with live := 10, rate := 10 }).output 8 = 10 ∧
    ∃ t, exec (.holdRun .stationA) (cmd .stationA [] (owned { Channel.powerOn with live := 10, rate := 10 })) = .next t ∧
      t.output 8 = 0 := ⟨by decide, _, rfl, by decide⟩

/-! ## What each statement assumes, met by a concrete state, each clause at its boundaries (the statements without hypotheses need none) -/

theorem witness_StepRunsFrontEvent : State.reset.pending = [] := rfl

theorem witness_CommandWordsDecode :
    (0x20, Instr.clamp) ∈ commandCodes.map (fun x => (x.1, x.2)) ∧ bitField 0xFF20#16 0 8 = 0x20 ∧
    Permitted.station.at .stationA = true ∧ Permitted.station.at .operator = false ∧ (∀ x ∈ commandCodes, bitField 0x0000#16 0 8 ≠ x.1) ∧
    commandAt? (.clamp .stationA) = some (.stationA, .station) := by
  refine ⟨?_, by decide, rfl, rfl, by decide, rfl⟩
  simp [commandCodes]

theorem witness_CommandNotTaken :
    commandAt? (.clamp .stationA) = some (.stationA, .station) ∧ decodeCommand .stationA 0#16 = .undefinedCommand .stationA 0#16 ∧
    ((inMode .stationA true 0 (.dataOut [1#16]) State.reset).port .stationA).spi = some ⟨true, 0⟩ ∧
    ((inMode .stationA true 0 (.dataOut [1#16]) State.reset).port .stationA).mode ≠ .ready ∧
    (cmd .operator [] State.reset).Accepts .operator ∧ commandAt? (.clamp .operator) = some (.operator, .station) ∧
    Permitted.station.at .operator = false := by decide

theorem witness_TakenCommandIsBusyAndRefusalChangesNothing :
    commandAt? (.takePrompt .operator) = some (.operator, .operator) ∧ Permitted.operator.at .operator = true ∧
    (cmd .operator [] State.reset).Accepts .operator ∧
    ∃ t, exec (.scan .stationA) (cmd .stationA [] State.reset) = .next t ∧
      (t.port .stationA).mode = .busy (.complete .wrongState []) := by
  refine ⟨rfl, rfl, by decide, _, rfl, by decide⟩

theorem witness_CommandAnswerTaken :
    ((inMode .stationA true 1 (.busy (.complete .ok [])) State.reset).port .stationA).mode = .busy (.complete .ok []) ∧
    ((inMode .stationA true 1 (.busy (.sendOut [1#16])) State.reset).port .stationA).mode = .busy (.sendOut [1#16]) ∧
    ((inMode .stationA true 1 (.busy (.takeIn (.fixtureData .a) 138)) State.reset).port .stationA).mode =
      .busy (.takeIn (.fixtureData .a) 138) ∧
    ∀ x, (State.reset.port .stationA).mode ≠ .busy x := by
  refine ⟨rfl, rfl, rfl, fun x h => by cases h⟩

theorem witness_StatusReadResult :
    ((inMode .operator false 0 .ready State.reset).port .operator).spi = some ⟨false, 0⟩ ∧
    ((inMode .operator false 0 .ready State.reset).port .operator).attention = false := by decide

theorem witness_DataAccesses :
    ((inMode .stationB false 18 (.dataOut [1#16, 2#16]) State.reset).port .stationB).spi = some ⟨false, 18⟩ ∧
    ((inMode .stationB false 18 (.dataOut [1#16, 2#16]) State.reset).port .stationB).mode = .dataOut (1#16 :: [2#16]) ∧
    ((inMode .stationB false 1 (.dataOut [1#16, 2#16]) State.reset).port .stationB).spi = some ⟨false, 1⟩ ∧
    ((inMode .stationB false 0 (.dataOut [1#16]) State.reset).port .stationB).spi = some ⟨false, 0⟩ ∧
    ((inMode .stationB false 19 (.dataOut [1#16]) State.reset).port .stationB).spi = some ⟨false, 19⟩ ∧
    (State.reset.port .stationB).spi = none ∧
    ((inMode .stationB false 18 (.dataOut [1#16]) State.reset).port .stationB).mode = .dataOut [1#16] ∧
    (∀ words, ((inMode .stationB false 18 .ready State.reset).port .stationB).mode ≠ .dataOut words) ∧
    ((inMode .stationB true 18 (.dataIn (.replyEntry .b 0) 15 []) State.reset).port .stationB).spi = some ⟨true, 18⟩ ∧
    ((inMode .stationB true 18 (.dataIn (.replyEntry .b 0) 15 []) State.reset).port .stationB).mode =
      .dataIn (.replyEntry .b 0) 15 [] ∧
    (List.replicate 13 0#16).length + 1 < 15 ∧
    ∀ target need got, ((inMode .stationB true 18 .ready State.reset).port .stationB).mode ≠ .dataIn target need got := by
  exact ⟨rfl, rfl, rfl, rfl, rfl, rfl, rfl, fun _ h => (nomatch h), rfl, rfl, by decide, fun _ _ _ h => (nomatch h)⟩

theorem witness_NoticeQueueRules :
    let x : Notice := ⟨.a, .wear 3⟩
    let w := { PortWindow.powerOn with spi := some ⟨true, 23⟩ }
    (List.replicate 15 x).length < 16 ∧ 16 ≤ (List.replicate 16 x).length ∧
    ((State.reset.setPort .stationA w).port .stationA).spi = some ⟨true, 23⟩ ∧
    ((State.reset.setPort .stationA w).port .stationA).notices = [] ∧
    ((State.reset.setPort .stationA { w with notices := [x] }).port .stationA).notices = [x] ∧
    ((State.reset.setPort .stationA { w with notices := [x, x] }).port .stationA).notices = [x, x] ∧ 19 ≤ 22 := by decide

theorem witness_WindowAccesses :
    ((inMode .stationA true 2 .ready State.reset).port .stationA).spi = some ⟨true, 2 + (0 : Fin 8).val⟩ ∧
    ((inMode .stationA true 9 .ready State.reset).port .stationA).spi = some ⟨true, 2 + (7 : Fin 8).val⟩ ∧
    ((inMode .stationA true 1 .ready State.reset).port .stationA).spi = some ⟨true, 1⟩ ∧
    ((inMode .stationA true 17 .ready State.reset).port .stationA).spi = some ⟨true, 17⟩ ∧
    ((inMode .stationA true 22 .ready State.reset).port .stationA).spi = some ⟨true, 22⟩ ∧
    ((inMode .stationA true 25 .ready State.reset).port .stationA).spi = some ⟨true, 25⟩ ∧
    ((inMode .stationA true 24 .ready State.reset).port .stationA).spi = some ⟨true, 24⟩ ∧
    commandAt? (.openRun .stationA) = some (.stationA, .station) := by decide

theorem witness_IdentifyResult : ∀ p ∈ [Port.stationA, .stationB, .operator], (cmd p [] State.reset).Accepts p := by decide

theorem witness_OpenRunResult :
    (cmd .stationA [] (runA .active)).Accepts (Nest.port .a) ∧ ((cmd .stationA [] (runA .active)).run .a).state ≠ .idle ∧
    ((cmd .stationA [] { runA .idle with stop := true }).run .a).state = .idle ∧
    (cmd .stationA [] { runA .idle with stop := true }).stop = true ∧
    ((cmd .stationA [] State.reset).fix .a).state ≠ .contacted ∧ (cmd .stationA [] State.reset).stop = false ∧
    ((cmd .stationA [] (runA .idle)).fix .a).state = .contacted ∧ (cmd .stationA [] (runA .idle)).works .a = [] := by decide

theorem witness_HoldRunResult :
    (cmd .stationA [] (runA .held)).Accepts (Nest.port .a) ∧ ((cmd .stationA [] (runA .held)).run .a).state ≠ .active ∧
    ((cmd .stationA [] (runA .active)).run .a).state = .active := by decide

theorem witness_ResumeRunResult :
    (cmd .stationA [] (runA .held)).Accepts (Nest.port .a) ∧ ((cmd .stationA [] (runA .held)).run .a).state = .held ∧
    ((cmd .stationA [] (runA .held)).fix .a).state = .contacted ∧ ((cmd .stationA [] (runA .active)).run .a).state ≠ .held ∧
    (let r := { request .level .rising with gate := .paused 0 }
     let s := { runA .held with mse := { Mse.powerOn with queue := [r] } }
     s.spentWork .a ≠ [] ∧ resumedQueue s.mse.queue .a 0 = []) ∧
    (let s := (runA .held).setBus .a { Beu.cleared with watches := (Vector.replicate 8 none).set 0 (some (watch .expect (.paused 0))) }
     s.spentWork .a ≠ []) ∧
    (let s := (runA .held).setPace .a ⟨20, .paused 0⟩
     (s.stu.pace.get .a).timer = .paused 0) ∧
    (runA .held).spentWork .a = [] ∧ ((runA .held).stu.pace.get .a).timer ≠ .paused 0 ∧
    (runA .held).mse.engine = .idle ∧ (measuring .level (.settling 3) 3).mse.engine = .working ⟨.a, 1#16, 1⟩ 0 (.settling 3) := by decide

theorem witness_closes :
    ∀ st ∈ [RunState.idle, .active, .held, .ended, .aborted],
      (cmd .stationA [] (runA st)).Accepts (Nest.port .a) ∧ ((cmd .stationA [] (runA st)).run .a).state = st ∧
      (st.isOpen = true ↔ st = .active ∨ st = .held) := by decide

theorem witness_OperatorAbortResult :
    (cmd .operator [2#16] (runA .held)).Accepts .operator ∧ 1 < ((cmd .operator [2#16] (runA .held)).param .operator 0).toNat ∧
    ((cmd .operator [0#16] (runA .held)).param .operator 0).toNat = 0 ∧
    ((cmd .operator [1#16] (runA .held)).param .operator 0).toNat = 1 ∧
    ((cmd .operator [1#16] (runA .held)).run .b).state.isOpen = false ∧
    ((cmd .operator [0#16] (runA .held)).run .a).state.isOpen = true := by decide

theorem witness_PostVerdictResult :
    let full := (runA .active).setRun .a { (runA .active).run .a with entries := List.replicate 128 (.created .note 0#16 none) }
    128 ≤ ((cmd .stationA [7#16, 1#16] full).run .a).entries.length ∧ (cmd .stationA [7#16, 1#16] full).Accepts (Nest.port .a) ∧
    ((cmd .stationA [7#16, 0#16] (runA .active)).run .a).state.isOpen = true ∧
    ((cmd .stationA [7#16, 3#16] (runA .active)).param .stationA 1).toNat = 3 ∧
    ((cmd .stationA [7#16, 1#16] (runA .active)).param .stationA 1).toNat = 1 ∧
    ((cmd .stationA [7#16, 2#16] (runA .held)).param .stationA 1).toNat = 2 := by
  refine ⟨Nat.le_of_eq ?_, ?_⟩
  · show 128 = (List.replicate 128 (Entry.created .note 0#16 none)).length
    rw [List.length_replicate]
  · decide

theorem witness_CancelEntryResult :
    (∀ k ∈ [EntryKind.measure, .prompt, .busForbid],
      ((cmd .stationA [1#16] (oneEntry k)).run .a).entry? 1 = some (.created k 7#16 none) ∧
      (cmd .stationA [1#16] (oneEntry k)).Accepts (Nest.port .a)) ∧
    ((cmd .stationA [0#16] (oneEntry .prompt)).param .stationA 0).toNat = 0 ∧
    ((cmd .stationA [2#16] (oneEntry .prompt)).run .a).entries.length < 2 ∧
    (Entry.created .prompt 7#16 none).outcome = .pending ∧ (noteEntry 7#16 .pass none 0#32).outcome ≠ .pending := by decide

theorem witness_ResultsAndProgress :
    (⟨.a, 1#16, 1⟩ : WorkId).serial = ((oneEntry .prompt).run .a).serial ∧
    ((oneEntry .prompt).run .a).entry? 1 = some (.created .prompt 7#16 none) ∧
    (⟨.a, 2#16, 1⟩ : WorkId).serial ≠ ((oneEntry .prompt).run .a).serial ∧ ((oneEntry .prompt).run .a).entry? 2 = none := by decide

theorem witness_RunReadsResult :
    (cmd .stationA [] (oneEntry .prompt)).Accepts (Nest.port .a) ∧
    ((cmd .stationA [] (oneEntry .prompt)).run .a).entries[0]? = some (.created .prompt 7#16 none) ∧
    (cmd .operator [1#16] (oneEntry .prompt)).Accepts .operator ∧ ((cmd .operator [1#16] (oneEntry .prompt)).param .operator 0).toNat = 1 ∧
    1 < ((cmd .operator [2#16] (oneEntry .prompt)).param .operator 0).toNat := by decide

theorem witness_ClampAndScanResult :
    (cmd .stationA [] fault).Accepts (Nest.port .a) ∧ (cmd .stationA [] fault).pru.slots.get .a ≠ none ∧
    (cmd .stationA [] State.reset).pru.slots.get .a = none ∧ ((cmd .stationA [] State.reset).fix .a).state = .opened ∧
    ((cmd .stationA [] State.reset).fix .a).lid = true ∧ ((cmd .stationA [] State.reset).fix .a).closed = false ∧
    ((nestA { fixture .opened with lid := false }).fix .a).lid = false ∧ ((nestA (fixture .opened)).fix .a).closed = true ∧
    ((nestA (fixture .clamped)).fix .a).state = .clamped ∧ ((nestA (fixture .clamped)).fix .a).pressure = true ∧
    ((nestA { fixture .clamped with pressure := false }).fix .a).pressure = false := by decide

theorem witness_UnclampResult :
    (cmd .stationA [] (runA .active)).Accepts (Nest.port .a) ∧ ((cmd .stationA [] (runA .active)).fix .a).state = .contacted ∧
    ((runA .active).run .a).state.isOpen = true ∧ ((runA .ended).run .a).state.isOpen = false ∧
    (fault.fix .a).state = .fault ∧ (fault.fix .a).permit = false ∧ ((nestA { fixture .fault with permit := true }).fix .a).permit = true ∧
    ((nestA { fixture .clamped with home := true }).fix .a).home = true ∧ ((nestA (fixture .clamped)).fix .a).home = false := by decide

theorem witness_FixtureSettingsResult :
    let p := fun (a b : Word) (k : Fin 8) => ((cmd .stationA [a, b] State.reset).param .stationA k).toNat
    let v := fun (a b : Word) => (quadOf ((cmd .stationA [a, b] State.reset).param .stationA 0) ((cmd .stationA [a, b] State.reset).param .stationA 1)).toNat
    (cmd .stationA [99#16, 100#16] State.reset).Accepts (Nest.port .a) ∧ p 99#16 100#16 0 < 100 ∧ 5000 < p 100#16 5001#16 1 ∧
    p 100#16 5000#16 0 = 100 ∧ p 100#16 5000#16 1 = 5000 ∧ v 0#16 0#16 = 0 ∧ 16000000 < v 0x00F4#16 0x2401#16 ∧
    v 0#16 1#16 = 1 ∧ v 0x00F4#16 0x2400#16 = 16000000 := by decide

theorem witness_ReadFixtureStatusResult :
    (cmd .stationA [] (nestA { fixture .clamped with firstFail := some 31 })).Accepts (Nest.port .a) ∧
    ((nestA { fixture .clamped with firstFail := some 31 }).fix .a).firstFail = some 31 ∧
    ((nestA (fixture .clamped)).fix .a).firstFail = none := by decide

theorem witness_SenseLevels :
    ((nestA (fixture .releasing)).fix .a).state = .releasing ∧ ((nestA (fixture .closing)).fix .a).state = .closing ∧
    ((nestA (fixture .opened)).fix .a).state ≠ .releasing := by decide

theorem witness_FaultEntry :
    let closing := { nestA { fixture .closing with clampTimer := .running 5 } with ms := 5 }
    let releasing := { nestA { fixture .releasing with releaseTimer := .running 6 } with ms := 5 }
    (closing.fix .a).state = .closing ∧ (closing.fix .a).clampTimer = .running 5 ∧ 5 ≤ closing.ms ∧
    (releasing.fix .a).releaseTimer = .running 6 ∧ releasing.ms < 6 ∧
    ({ releasing with ms := 6 }.fix .a).state = .releasing ∧ 6 ≤ ({ releasing with ms := 6 } : State).ms ∧
    ((nestA (fixture .scanning)).fix .a).state = .scanning ∧ ((nestA (fixture .opened)).fix .a).state = .opened ∧
    ((nestA (fixture .opened)).fix .a).clampTimer = .stopped := by decide

theorem witness_StopFaults :
    let both := (nestA (fixture .contacted)).setFix .b (fixture .clamped)
    (State.reset.fix .a).state = .opened ∧ (State.reset.fix .b).state = .opened ∧
    ((nestA (fixture .closing)).fix .a).state = .closing ∧ ((nestA (fixture .closing)).fix (Nest.other .a)).state = .opened ∧
    (both.fix .a).state = .contacted ∧ (both.fix .b).state = .clamped := by decide

theorem witness_PressureLostResult :
    let losses := fun st k => (runA st).setRun .a { (runA st).run .a with holdCount := k }
    ((runA .ended).fix .a).state = .contacted ∧ ((runA .ended).run .a).state.isOpen = false ∧
    ((losses .held 2).run .a).state = .held ∧ ((losses .held 2).run .a).holdCount < 3 ∧
    ((losses .active 2).run .a).state = .active ∧ ((losses .active 2).run .a).holdCount < 3 ∧
    3 ≤ ((losses .active 3).run .a).holdCount ∧ ((losses .held 3).run .a).state.isOpen = true ∧
    ((inScan .settle 0).fix .a).state = .scanning ∧ (State.reset.fix .a).state = .opened := by decide

theorem witness_ProbeLineCommands :
    let p := fun (l : List Word) (k : Fin 8) => ((cmd .stationA l State.reset).param .stationA k).toNat
    (cmd .stationA [] State.reset).Accepts (Nest.port .a) ∧ (State.reset.run .a).state = .idle ∧ (State.reset.fix .a).state = .opened ∧
    32 ≤ p [32#16] 0 ∧ p [31#16, 5#16] 1 = 5 ∧ (∀ r : Fin 16, (Role.stim r).num = 1) ∧ p [31#16, 1#16, 16#16] 2 = 16 ∧
    p [31#16, 2#16, 11#16] 0 = (31 : Fin 32).val ∧ p [31#16, 2#16, 11#16] 1 = (Role.sense 11).num ∧
    p [31#16, 2#16, 11#16] 2 = (Role.sense 11).arg ∧ wired.lines[1].role = .sense 0 ∧ (Role.sense 0).exclusive = true ∧
    (Role.supply).exclusive = false ∧ (fixture .clamped).state ≠ .opened := by decide

/-- Words of fixture data with wear limit 1: lines 0 and 1 as given, the rest unused, no spare assigned. -/
def blockOf (a0 a1 b0 : Word) (i : Nat) : Word :=
  if i = 0 then 1#16 else if i = 1 then 32#16 else if i = 3 then 1#16 else if i = 4 then a0 else if i = 5 then a1 else if i = 8 then b0
  else if 132 ≤ i then 0xFFFF#16 else 0#16

def contents (a b : Line) : FixtureData := ⟨1, ((Vector.replicate 32 Line.unusedLine).set 0 a).set 1 b, Vector.replicate 6 none⟩

theorem witness_FixtureDataCommands :
    let got := (List.range 137).map (blockOf 0#16 0#16 0#16)
    let s := inMode .stationA true 18 (.dataIn (.fixtureData .a) 138 got) State.reset
    (cmd .stationA [] State.reset).Accepts (Nest.port .a) ∧ (s.port .stationA).spi = some ⟨true, 18⟩ ∧
    (s.port .stationA).mode = .dataIn (.fixtureData .a) 138 got ∧ got.length = 137 := by
  refine ⟨by decide, rfl, rfl, ?_⟩
  rw [List.length_map, List.length_range]

/-- Contents in range and their words: sound, with an inconsistent pool, with a duplicated role, and words that spell none. -/
theorem witness_fixtureBlocks :
    let free := contents Line.unusedLine Line.unusedLine
    let pool := contents (line .supply (.spare 0) false) Line.unusedLine
    let twice := contents (line (.sense 0) .primary false) (line (.sense 0) .primary false)
    (free.InRange ∧ free.SpelledBy (blockOf 0#16 0#16 0#16)) ∧ (pool.InRange ∧ pool.SpelledBy (blockOf 4#16 1#16 0#16)) ∧
    (twice.InRange ∧ twice.SpelledBy (blockOf 2#16 0#16 2#16)) ∧ (∀ g : FixtureData, ¬ g.SpelledBy fun _ => 0#16) := by
  refine ⟨?_, ?_, ?_, fun g h => absurd h.1 (by decide)⟩ <;>
    (unfold FixtureData.InRange FixtureData.SpelledBy; decide)

theorem witness_fixtureChecks :
    ¬ PoolSound ((contents (line .supply (.spare 0) false) Line.unusedLine).lines.map Line.path) (Vector.replicate 6 none) ∧
    PoolSound ((contents (line (.sense 0) .primary false) (line (.sense 0) .primary false)).lines.map Line.path) (Vector.replicate 6 none) ∧
    ¬ RolesDistinct (contents (line (.sense 0) .primary false) (line (.sense 0) .primary false)).lines := by
  refine ⟨fun h => absurd ((h 0 0).1 (by simp [contents, line])) (by simp), fun k i => ?_, fun h => absurd (h 0 1 rfl rfl) (by decide)⟩
  rw [Fin.getElem_fin, Vector.getElem_map]
  revert k i; decide

theorem witness_FixtureDataRoundTrip : (State.reset.fix .a).MapSound := by
  refine ⟨?_, ?_, ?_, by decide, by decide⟩
  · intro k; simp [State.fix, State.reset, PerNest.get, Fxc.powerOn, Line.unusedLine, Line.Sound, Config.wearLimitPowerOn]
  · intro j k _ h; simp [State.fix, State.reset, PerNest.get, Fxc.powerOn, Line.unusedLine, Role.exclusive] at h
  · intro k i; simp [State.fix, State.reset, PerNest.get, Fxc.powerOn, Line.unusedLine]

theorem witness_ScanTestEndResult :
    (fixture .contacted).state = .contacted ∧ (fixture .opened).state ≠ .contacted ∧ (fixture .opened).state ≠ .scanning ∧
    ((inScan (.spare 0 5) 19).fix .a).state = .scanning ∧ ((inScan (.spare 0 5) 19).fix .a).scan = some (scanning (.spare 0 5)) ∧
    ((inScan (.spare 0 5) 19).fix .a).spareRelay 5 = true ∧ ((inScan (.line 0) 19).fix .a).primaryRelay 0 = true ∧
    wired.primaryRelay 1 = true ∧
    (State.reset.fix .a).scan = none ∧ ((inScan .settle 19).fix .a).scan = some (scanning .settle) ∧ (inScan .settle 19).ms < 20 ∧
    20 ≤ (inScan (.line 0) 20).ms ∧ (scanning .finished).target = .finished ∧ (scanning (.line 0)).marks[0] = true ∧
    (scanning (.line 0)).paths[0] = .primary ∧ (scanning (.line 1)).marks[1] = false ∧ wired.lines[0].role = .bus ∧
    (scanning (.line 0)).spares[0] = none ∧ 0 ∉ (scanning (.line 0)).failedSpares ∧ (scanning (.spare 0 5)).target = .spare 0 5 ∧
    (let x := { scanning (.line 0) with paths := (scanning (.line 0)).paths.set 0 (.spare 3) }
     x.paths[0] = .spare 3) ∧
    (let x := { scanning (.line 0) with failedSpares := [0, 1, 2, 3, 4, 5] }
     ∀ i : Fin 6, i ∈ x.failedSpares) ∧ 10000 ≤ 10000 ∧ 9999 < 10000 := by decide

theorem witness_ScanCompletionResult :
    let done := { scanning .finished with lost := [(1, .noSpare)], paths := (scanning .settle).paths.set 1 .lost }
    let s := { nestA { wired with state := .scanning, scan := some done } with ms := 20 }
    (s.fix .a).scan = some done ∧ done.target = .finished ∧ done.due ≤ s.ms ∧ wired.lines[1].role = .sense (request .level .none).input ∧
    ((inScan .finished 19).fix .a).scan = some (scanning .finished) ∧ (inScan .finished 19).ms < (scanning .finished).due ∧
    (scanning .settle).target ≠ .finished ∧ (∃ x ∈ done.lost, ∃ k, wired.lines[x.1].role = .sense k) ∧
    (∀ x ∈ (scanning .finished).lost, ∀ k, wired.lines[x.1].role ≠ .sense k) ∧ (∀ r ∈ s.mse.queue, ¬ r.servedBy .a (.sense 0)) ∧
    (request .level .none).servedBy .a wired.lines[1].role := by decide

theorem witness_ClaimAndRelease :
    (cmd .stationA [0xFFFF#16, 1#16] (runA .held)).Accepts (Nest.port .a) ∧ ((cmd .stationA [0xFFFF#16, 1#16] (runA .held)).run .a).state.isOpen = true ∧
    ((cmd .stationA [1#16] (runA .ended)).run .a).state.isOpen = false ∧ ClaimsSound (cmd .stationA [0xFFFF#16, 1#16] (runA .held)) := by
  refine ⟨by decide, by decide, by decide, fun c n => ?_⟩
  simp [cmd, runA, nestA, State.chan, State.setPort, State.setRun, State.setFix, State.reset, Channel.powerOn]

theorem witness_ChannelWrites :
    let v := fun (l : List Word) (k : Fin 8) => ((cmd .stationA l (owned Channel.powerOn)).param .stationA k).toNat
    (cmd .stationA [8#16, 50000#16] (owned Channel.powerOn)).Accepts (Nest.port .a) ∧ v [8#16, 50000#16] 0 = (8 : Fin 16).val ∧
    v [8#16, 50000#16] 1 ≤ chanTop 8 ∧ chanTop 8 < v [8#16, 50001#16] 1 ∧ 16 ≤ v [16#16] 0 ∧ ((owned Channel.powerOn).chan 8).owner = some .a ∧
    ((owned Channel.powerOn).chan 15).owner = none ∧ chanTop 15 < v [15#16, 2#16] 1 ∧ v [15#16, 1#16] 1 ≤ chanTop 15 ∧
    inMask 0x0100#16 8 = true ∧ inMask 0x0000#16 8 = false ∧ (cmd .stationA [0x0100#16] (owned Channel.powerOn)).active .a = true ∧
    (cmd .stationA [0x0100#16] (runA .held)).Accepts (Nest.port .a) ∧ (cmd .stationA [0x0100#16] (runA .held)).active .a = false := by decide

theorem witness_ConfigureChannelResult :
    let s := cmd .stationA [8#16, 3#16, 2#16, 3#16, 3#16, 64#16, 3#16] (owned Channel.powerOn)
    s.Accepts (Nest.port .a) ∧ (s.param .stationA 0).toNat = (8 : Fin 16).val ∧ (s.param .stationA 1).toNat = ChanMode.sweep.num ∧
    (s.param .stationA 2).toNat = CommitSource.pace.num ∧ (s.param .stationA 3).toNat = (3 : Fin 4).val ∧
    (s.param .stationA 4).toNat = EdgeSel.both.num ∧ (s.param .stationA 5).toNat ∈ [4, 8, 16, 32, 64] ∧ (s.param .stationA 6).toNat ≤ 3 ∧
    (s.chan 8).owner = some .a ∧ (s.chan 8).mode ≠ .sweep ∧ (s.chan 0).owner ≠ some .a ∧
    16 ≤ ((cmd .stationA [16#16] s).param .stationA 0).toNat ∧ 3 < ((cmd .stationA [8#16, 4#16] s).param .stationA 1).toNat ∧
    ((cmd .stationA [8#16, 0#16, 0#16, 0#16, 0#16, 5#16] s).param .stationA 5).toNat ∉ [4, 8, 16, 32, 64] ∧
    ((cmd .stationA [8#16, 0#16, 0#16, 0#16, 0#16, 16#16, 0#16] s).param .stationA 5).toNat = (s.chan 8).sweepN := by decide

theorem witness_CommitEvents :
    let sweep := fun a : Nat => { Channel.powerOn with mode := .sweep, stagedA := a, stagedB := 50000, sweepN := 4, pos := 1 }
    (∀ m ∈ [ChanMode.direct, .latched, .alternate], ({ Channel.powerOn with mode := m } : Channel).mode = m) ∧
    (∀ f ∈ [AltPhase.a, .b], ({ Channel.powerOn with phase := f } : Channel).phase = f) ∧
    Channel.powerOn.mode ≠ .alternate ∧ (⟨.alternate, .soft, 0, .none, 8, 0⟩ : ChannelConfig).mode = .alternate ∧
    (sweep 0).sweepN ∈ [4, 8, 16, 32, 64] ∧ (sweep 0).pos < (sweep 0).sweepN ∧ ({ sweep 0 with pos := 3 } : Channel).pos < 4 ∧
    (sweep 0).commit 50000 = { sweep 0 with pos := 2, live := 50000 } ∧
    (sweep 1).commit 50000 = { sweep 1 with pos := 2, live := 50000, clamped := true } ∧
    ({ sweep 49999 with pos := 3 } : Channel).commit 50000 = { sweep 49999 with pos := 0, live := 0, clamped := true } ∧
    4 * 1 ≤ 4 ∧ 4 < 4 * 2 ∧ 4 * 3 ≤ 3 * 4 ∧ 3 * 64 < 4 * 49 ∧ 63 < 64 ∧
    ((owned Channel.powerOn).setRun .a { (runA .held).run .a with state := .held }).active .a = false ∧
    (State.reset.chan 8).owner = none := by decide

theorem witness_ClockPaceAndPulse :
    (cmd .stationA [65535#16] (runA .active)).Accepts (Nest.port .a) ∧ ((cmd .stationA [65535#16] (runA .active)).param .stationA 0).toNat ≠ 0 ∧
    ((cmd .stationA [1#16] (runA .held)).run .a).state = .held ∧ ((cmd .stationA [1#16] (runA .ended)).run .a).state.isOpen = false ∧
    (((runA .held).setPace .a ⟨20, .paused 3⟩).stu.pace.get .a).timer = .paused 3 ∧
    (let s := { (runA .active).setPace .a ⟨20, .running 7⟩ with ms := 7 }
     (s.stu.pace.get .a).timer = .running 7 ∧ 7 ≤ s.ms ∧ ({ s with ms := 6 } : State).ms < 7) ∧
    (let s := { owned { Channel.powerOn with rate := 10, periodEnd := ⟨1000, 1⟩ } with ms := 1000 }
     chanKind 8 = .pulse ∧ 0 < (s.chan 8).rate ∧ (s.chan 8).periodEnd.num < (s.ms + 1) * (s.chan 8).periodEnd.den ∧
       (1000 : Nat) * 1 ≤ 1000) ∧
    (State.reset.chan 8).rate = 0 ∧
    (let x := { Channel.powerOn with rate := 10, periodEnd := ⟨1000, 1⟩ }
     let m : Moment := ⟨0, 1⟩
     0 < x.rate ∧ 0 < m.den ∧ x.periodEnd.num * (m.den * x.rate) = (m.num * x.rate + 10000 * m.den) * x.periodEnd.den ∧
       m.num ≤ 0 * m.den ∧ 999 * x.periodEnd.den < x.periodEnd.num ∧ x.pinHigh 499 = true ∧ x.pinHigh 500 = false) ∧
    (let s := (owned Channel.powerOn).setFix .a { fixture .contacted with
       lines := (Vector.replicate 32 Line.unusedLine).set 4 (line (.stim 8) .primary false) }
     (s.chan 8).owner = some .a ∧ (s.chan 8).owner ≠ some .b ∧ s.reachesCluster .a 8 = true ∧ s.reachesCluster .b 8 = false) := by decide

theorem witness_StimulusReads :
    (cmd .operator [15#16] State.reset).Accepts .operator ∧ ((cmd .operator [15#16] State.reset).param .operator 0).toNat = (15 : Fin 16).val ∧
    16 ≤ ((cmd .operator [16#16] State.reset).param .operator 0).toNat ∧ ClaimsSound State.reset := by
  refine ⟨by decide, by decide, by decide, fun c n => ?_⟩
  simp [State.chan, State.reset, Channel.powerOn]

theorem witness_TriggerLineEvents :
    let high := State.reset.setTri (State.reset.tri.set 0 ⟨.high, .low, some 7, 2⟩)
    (cmd .stationA [3#16, 50#16] State.reset).Accepts (Nest.port .a) ∧ ((cmd .stationA [3#16, 50#16] State.reset).param .stationA 0).toNat = (3 : Fin 4).val ∧
    ((cmd .stationA [3#16, 50#16] State.reset).param .stationA 1).toNat ≤ 50 ∧ 50 < ((cmd .stationA [3#16, 51#16] State.reset).param .stationA 1).toNat ∧
    4 ≤ ((cmd .stationA [4#16] State.reset).param .stationA 0).toNat ∧ Level.low = State.reset.tri[0].filtered ∧
    Level.high ≠ State.reset.tri[0].filtered ∧ 0 < State.reset.tri[0].filter ∧
    (State.reset.setTri (State.reset.tri.set 0 { State.reset.tri[0] with filter := 0 })).tri[0].filter = 0 ∧
    high.tri[0].change = some 7 ∧ 7 ≤ ({ high with ms := 7 } : State).ms ∧ high.ms < 7 ∧ State.reset.tri[0].change = none := by decide

theorem witness_LinkAndBroadcastCommands :
    let p := fun (l : List Word) (k : Fin 8) => (cmd .stationA l State.reset).param .stationA k
    let good := [0x0317#16, 0x8005#16, 0#16, 0#16, 0#16, 0#16, 10#16, 0x0F06#16]
    (cmd .stationA good State.reset).Accepts (Nest.port .a) ∧ bitField (p good 0) 0 5 = (23 : Fin 24).val ∧ bitField (p good 1) 12 4 ≤ 8 ∧
    10 ≤ (p good 6).toNat ∧ flagBit (p good 0) 9 = true ∧ bitField (p good 7) 0 3 ≤ 6 ∧
    bitField (p good 7) 0 3 + 2 ≤ bitField (p good 1) 12 4 ∧ (p [0#16, 0#16, 0#16, 0#16, 0#16, 0#16, 9#16] 6).toNat < 10 ∧
    10000 < (p [0#16, 0#16, 0#16, 0#16, 0#16, 0#16, 10001#16] 6).toNat ∧ 2 < (p [3#16] 0).toNat ∧
    (∀ l ∈ [LinkState.off, .listen, .active], (p [wordOfNat l.num] 0).toNat = l.num) ∧ (State.reset.bus .a).link = .off ∧
    ((sending .sending).bus .a).link = .active ∧ flagBit (p [0#16, 1#16] 1) 0 = true ∧ 2047 < (p [2048#16] 0).toNat ∧
    (p [2047#16] 0).toNat = (2047#11).toNat ∧ 24 ≤ (p [24#16] 0).toNat ∧ (p [23#16] 0).toNat = (23 : Fin 24).val := by decide

theorem witness_ReplyEntryCommands :
    let p := fun (l : List Word) (k : Fin 8) => (cmd .stationA l State.reset).param .stationA k
    let got := [2047#16, 0#16, 2047#16, 255#16, 5000#16, 8#16, 0#16, 0#16, 0#16, 0#16, 8#16, 0#16, 0#16, 0#16]
    let s := inMode .stationA true 18 (.dataIn (.replyEntry .a 15) 15 got) State.reset
    (cmd .stationA [15#16, 5#16] State.reset).Accepts (Nest.port .a) ∧ (p [15#16, 5#16] 0).toNat = (15 : Fin 16).val ∧ 16 ≤ (p [16#16] 0).toNat ∧
    bitField (p [15#16, 5#16] 1) 0 3 = Reservation.silent.num ∧ 5 < bitField (p [15#16, 6#16] 1) 0 3 ∧ flagBit (p [15#16, 1#16] 1) 0 = true ∧
    (s.port .stationA).spi = some ⟨true, 18⟩ ∧ (s.port .stationA).mode = .dataIn (.replyEntry .a 15) 15 got ∧ got.length = 14 ∧
    (got.getD 0 0#16).toNat ≤ 2047 ∧ (got.getD 3 0#16).toNat ≤ 255 ∧ (got.getD 4 0#16).toNat ≤ 5000 ∧ (got.getD 10 0#16).toNat ≤ 8 ∧
    ¬ (1 ≤ ((List.replicate 14 0#16).getD 4 0#16).toNat) := by decide

theorem witness_WatchesAndLinkStatus :
    let p := fun (l : List Word) (k : Fin 8) => (cmd .stationA l (runA .active)).param .stationA k
    let good := [7#16, 0xA005#16, 0x0001#16, 0x0701#16, 60000#16]
    let s := { onBus { Beu.cleared with watches := (Vector.replicate 8 none).set 7 (some (watch .forbid (.running 9))) } with ms := 9 }
    (cmd .stationA good (runA .active)).Accepts (Nest.port .a) ∧ ((runA .active).run .a).state.isOpen = true ∧ bitField (p good 1) 12 2 = 2 ∧
    bitField (p good 2) 8 3 ≠ bitField (p good 3) 8 3 ∧ (p good 4).toNat = 60000 ∧ (p [0#16] 4).toNat = 0 ∧
    bitField (p [0#16, 0x3000#16] 1) 12 2 = 3 ∧ ((runA .active).bus .a).watches[(0 : Fin 8)] = none ∧
    (∀ i : Fin 8, ((onBus { Beu.cleared with watches := Vector.replicate 8 (some (watch .expect .stopped)) }).bus .a).watches[i] ≠ none) ∧
    (s.bus .a).watches[(7 : Fin 8)] = some (watch .forbid (.running 9)) ∧ 9 ≤ s.ms ∧ ({ s with ms := 8 } : State).ms < 9 := by decide

theorem witness_FramesSent :
    let b := { Broadcast.cleared with id := 5#11, len := 8, enabled := true, linked := some ⟨6, 8⟩, timer := .running 100 }
    let s := { onBus { Beu.cleared with link := .active, bcast := (Vector.replicate 24 Broadcast.cleared).set 23 b } with ms := 100 }
    (s.bus .a).bcast[(23 : Fin 24)].timer = .running 100 ∧ 100 ≤ s.ms ∧ ({ s with ms := 99 } : State).ms < 100 ∧ (s.bus .a).txq.length < 8 ∧
    8 ≤ ((onBus { Beu.cleared with txq := List.replicate 8 queued }).bus .a).txq.length ∧
    ((sending .idle).bus .a).txq ≠ [] ∧ ((sending .idle).bus .a).tx = .idle ∧ ((sending .orphaned).bus .a).tx = .orphaned ∧
    ((sending .sending).bus .a).txq = [queued] ∧ queued.attempts + 1 = 8 ∧ queued.source = .reply 0 ∧
    ({ queued with attempts := 6 } : TxFrame).attempts + 1 < 8 ∧
    ((replying .defer 0 [scheduled]).bus .a).sched[0]? = some scheduled ∧ scheduled.due ≤ (replying .defer 0 [scheduled]).ms ∧
    ((replying .defer 0 []).bus .a).sched[0]? = none := by decide

theorem witness_FrameArrivalResult :
    let f : Frame := ⟨5#11, [1#8]⟩
    (State.reset.bus .a).link = .off ∧ ((replying .defer 0 []).bus .a).link = .active ∧ RxResult.checkError ≠ .good ∧
    8 < (List.replicate 9 0#8).length ∧ f.data.length ≤ 8 ∧ ((runA .ended).run .a).state.isOpen = false ∧
    (∀ x ∈ [Reservation.silent, .buffer0, .buffer1, .alternate, .defer],
      ((replying x 0 []).bus .a).replies[(0 : Fin 16)].reservation ≠ .none ∧ ((replying x 0 []).bus .a).replies[(0 : Fin 16)].matchId = f.id ∧
      ((replying x 0 []).bus .a).replies[(0 : Fin 16)].matchByte = none) ∧
    ((replying .defer 0 (List.replicate 8 scheduled)).bus .a).sched.length = 8 ∧ ((replying .defer 255 []).bus .a).replies[(0 : Fin 16)].delay ≠ 0 ∧
    ((onBus { Beu.cleared with link := .listen, restartId := some 5#11 }).bus .a).restartId = some f.id ∧
    (watch .expect .stopped).hits f = true := by decide

theorem witness_MeasurementCommands :
    let p := fun (l : List Word) (k : Fin 8) => (cmd .stationA l (runA .active)).param .stationA k
    let good := [7#16, 0x8000#16, 1000#16, 64#16, 0#16, 0#16, 0#16, 0#16]
    let s := cmd .stationA good ((runA .active).setFix .a wired)
    s.Accepts (Nest.port .a) ∧ (s.run .a).state.isOpen = true ∧ (s.run .a).entries.length < 128 ∧ bitField (p good 1) 4 3 = 0 ∧
    (p good 2).toNat ≤ 1000 ∧ (p good 3).toNat ≤ 64 ∧ (p good 3).toNat ≠ 0 ∧ (quadOf (p good 4) (p good 5)).toInt ≤ (quadOf (p good 6) (p good 7)).toInt ∧
    (0 : Fin 12).val = bitField (p good 1) 0 4 ∧ (s.fix .a).lines[(1 : Fin 32)].role = .sense 0 ∧ (s.fix .a).lines[(1 : Fin 32)].path ≠ .lost ∧
    (∀ k : Fin 32, (fixture .contacted).lines[k].role ≠ .sense 0) ∧ 4 < bitField (p [0#16, 0x0050#16] 1) 4 3 ∧
    16 ≤ (List.replicate 16 (request .level .none)).length ∧ bitField (p [0#16, 0x0010#16] 1) 4 3 = 1 ∧ (p [0#16] 0).toNat = 0 ∧
    (p [60000#16] 0).toNat ≤ 60000 ∧ 60000 < (p [60001#16] 0).toNat ∧ (p [0#16, 1001#16] 1).toNat = 1001 ∧
    (cmd .operator [1#16] s).Accepts .operator ∧ 1 < ((cmd .operator [2#16] s).param .operator 0).toNat := by decide

theorem witness_EngineEvents :
    let gated := { oneEntry .measure with ms := 5, mse := { Mse.powerOn with queue := [request .level .rising] } }
    let r := request .level .none
    request .level .rising ∈ gated.mse.queue ∧ (request .level .rising).gate = .running 5 ∧ 5 ≤ gated.ms ∧ ({ gated with ms := 4 } : State).ms < 5 ∧
    r ∈ (measuring .level (.settling 3) 3).mse.queue ∧ (∀ x ∈ (measuring .level (.settling 3) 3).mse.queue, x.id = r.id → x = r) ∧
    (measuring .level (.settling 3) 3).mse.engine = .working r.id 0 (.settling 3) ∧ 3 ≤ (measuring .level (.settling 3) 3).ms ∧
    (measuring .level (.settling 3) 2).ms < 3 ∧
    (let s := measuring .level (.measuring 0 10 (.samples 0 9)) 10
     s.mse.engine = .working r.id 0 (.measuring 0 10 (.samples 0 9)) ∧ 9 < r.amount ∧ 0 + 9 + 1 ≤ s.ms) ∧
    (measuring .level (.measuring 0 10 (.samples 0 9)) 9).ms < 0 + 9 + 1 ∧
    (let s := measuring .freq (.measuring 0 10 (.window false 0 0 0)) 9
     s.mse.engine = .working r.id 0 (.measuring 0 10 (.window false 0 0 0)) ∧ s.ms * 1000 + 999 ≤ 10 * 1000 ∧
       10 * 1000 < ({ s with ms := 10 } : State).ms * 1000 + 1) ∧ (2500 : Int) < 2501 ∧ (1499 : Int) < 1500 ∧
    (let s := measuring .freq (.measuring 9 19 (.window false 0 0 9000)) 9
     s.mse.engine = .working r.id 0 (.measuring 9 19 (.window false 0 0 9000)) ∧ s.ms * 1000 + 0 ≤ 9 * 1000 ∧ 9 * 1000 < s.ms * 1000 + 1) ∧
    (runA .active).mse.engine = .idle ∧ (measuring .zero (.settling 3) 2).switchInput? = some (.zeroReference .a) ∧
    (measuring .current (.settling 3) 2).switchInput? = some (.supplyCurrent .a) ∧
    (measuring .duty (.settling 3) 2).switchInput? = some (.sense .a 0) := by decide

theorem witness_Completions :
    (let r := request .level .none
     let s := measuring .level (.measuring 0 10 (.samples 1000 10)) 10
     r ∈ s.mse.queue ∧ (∀ x ∈ s.mse.queue, x.id = r.id → x = r) ∧ s.mse.engine = .working r.id 0 (.measuring 0 10 (.samples 1000 10)) ∧ 10 ≤ s.ms ∧
       (1000 : Int).tdiv r.amount = 100 ∧ r.low.toInt ≤ 100 ∧ 100 ≤ r.high.toInt ∧ r.high.toInt < (1010 : Int).tdiv r.amount ∧
       (-10 : Int).tdiv r.amount < r.low.toInt ∧ ¬ r.attempts ≤ r.retries ∧ ({ r with retries := 1 } : Request).attempts ≤ 1) ∧
    (measuring .level (.measuring 0 10 (.samples 1000 10)) 9).ms < 10 ∧ (9 : Nat) ≠ (request .level .none).amount ∧
    (measuring .zero (.measuring 0 10 (.samples 20000 10)) 10).mse.queue = [request .zero .none] ∧ (20000 : Int).tdiv 10 ≤ 2000 ∧
    2000 < (20010 : Int).tdiv 10 ∧ -2000 ≤ (-20000 : Int).tdiv 10 ∧ (-20010 : Int).tdiv 10 < -2000 := by decide

theorem witness_PromptsPostedAndTaken :
    let p := fun (l : List Word) (k : Fin 8) => (cmd .stationA l (runA .active)).param .stationA k
    let good := [7#16, 0xAF9F#16, 0x4258#16, 1#16, 2#16, 3#16, 4#16, 0#16]
    let waits := asked (prompt .yesNo 1 .waiting .stopped) 0
    (cmd .stationA good (runA .active)).Accepts (Nest.port .a) ∧ bitField (p good 1) 0 12 = 3999 ∧ bitField (p good 1) 12 2 = 2 ∧
    bitField (p good 2) 0 10 = 600 ∧ bitField (p good 2) 12 3 = 4 ∧ 3999 < bitField (p [0#16, 0x0FA0#16] 1) 0 12 ∧
    4 < bitField (p [0#16, 0#16, 0x5000#16] 2) 12 3 ∧ 600 < bitField (p [0#16, 0#16, 601#16] 2) 0 10 ∧
    5 ≤ (List.replicate 5 (prompt .yesNo 1 .waiting .stopped)).countP (fun x => x.id.nest == .a) ∧
    fault.pru.presented? = some (.system .a ⟨4005, 0#16, .presented 9⟩) ∧ State.reset.pru.presented? = none ∧
    State.reset.pru.presentableSet State.reset.active = [] ∧ waits.pru.presented? = none ∧ waits.pru.presentableSet waits.active ≠ [] ∧
    (waits.pru.queue.map Prompt.id).Nodup ∧ (cmd .operator [] waits).Accepts .operator := by decide

theorem witness_PromptsAnswered :
    let y := prompt .yesNoRepeat 3 (.presented 255) (.running 1000)
    let s := cmd .operator [255#16, 4#16] (asked y 1000)
    s.Accepts .operator ∧ s.pru.presented? = some (.ordinary y) ∧ y.pres = .presented (s.param .operator 0).toNat ∧
    (s.param .operator 1).toNat = 4 ∧ y.attempts < 4 ∧ 4 ≤ (prompt .yesNoRepeat 4 (.presented 255) (.running 1000)).attempts ∧
    (cmd .operator [9#16, 1#16] fault).pru.presented? = some (.system .a ⟨4005, 0#16, .presented 9⟩) ∧
    ((cmd .operator [9#16, 1#16] fault).param .operator 0).toNat = 9 ∧ (fault.fix .a).state = .fault ∧
    (cmd .operator [8#16] State.reset).pru.presented? = none ∧ s.active y.id.nest = true ∧ y.timer = .running 1000 ∧ 1000 ≤ s.ms ∧
    ({ s with ms := 999 } : State).ms < 1000 := by decide

/-- A state other than the one after reset, with an event at the front of its queue, for the invariants' statements. -/
def ticking : State := { State.reset with pending := [.timebaseTick], ms := 7 }

theorem witness_step : step ticking = .next { State.reset with ms := 8 } := rfl

theorem witness_ports : PortsSound ticking ∧ CapacitiesKept ticking := by
  refine ⟨fun p => ?_, fun n => ?_, by decide, by decide⟩
  · cases p <;> exact ⟨by decide, by decide, by decide, by decide, trivial⟩
  · cases n <;> decide

theorem witness_fixtures : RunsOnContact ticking ∧ FaultsAwaitOperator ticking ∧ MapsSound ticking := by
  have h : ∀ n, (ticking.fix n).CycleSound := fun n => by cases n <;> exact ⟨by decide, by decide, by decide⟩
  refine ⟨fun n => ⟨h n, by cases n <;> decide⟩, fun n => by cases n <;> decide, fun n => ⟨?_, h n, fun sc e => ?_⟩, fun p n e => ?_⟩
  · cases n <;> exact witness_FixtureDataRoundTrip
  · cases n <;> cases e
  · cases p <;> cases e

theorem witness_followers :
    ClaimsSound ticking ∧ ChannelsInRange ticking ∧ GeneratorsFollow ticking ∧ PaceFollowsRun ticking ∧ TriggersSound ticking ∧
    LinksSound ticking ∧ WindowsFollowRun ticking := by
  refine ⟨fun c n => ?_, fun c => ?_, fun c => ?_, fun n => ?_, fun l => ?_, fun n => ?_, fun n i w e => ?_⟩
  · simp [ticking, State.chan, State.reset, Channel.powerOn]
  · simp [ticking, State.chan, State.reset, Channel.powerOn, Channel.InRange, sweepPeriodOk]
  · simp [ticking, State.chan, State.output, State.reset, Channel.powerOn, Channel.output]
  · cases n <;> trivial
  · simp [ticking, State.reset, TriggerLine.powerOn, Config.filterPowerOn]
  · refine ⟨⟨fun _ => ⟨by cases n <;> rfl, by cases n <;> rfl, by cases n <;> decide, fun k => ?_⟩, by cases n <;> decide, by cases n <;> decide⟩,
      ⟨fun k => ?_, fun k => ?_⟩, fun f h => by cases n <;> cases h⟩ <;>
      cases n <;> simp [ticking, State.bus, State.reset, PerNest.get, Beu.cleared, Broadcast.cleared, Reply.cleared, Reply.armed, Config.broadcastPeriodReset]
  · cases n <;> simp [ticking, State.bus, State.reset, PerNest.get, Beu.cleared] at e

theorem witness_work : WorkMatchesRecord ticking ∧ EngineSound ticking ∧ PromptsSound ticking := by
  refine ⟨fun n => ⟨by cases n <;> decide, by cases n <;> decide, fun seq e h => ?_⟩, ?_, ?_⟩
  · cases n <;> simp [ticking, State.run, State.reset, PerNest.get, Rnc.idle, Rnc.entry?] at h
  · exact ⟨fun r h => (nomatch h), fun r h => (nomatch h)⟩
  · exact ⟨by decide, by simp [ticking, State.reset, Pru.cleared], by decide, by decide⟩

end Sys2Proof.Machine.Tests
end

section
/-! PROOFS. Commands of one port and operations at a station port: what they answer, and how they commute with the taking of a command. -/

namespace Sys2Proof.Machine

/-! ## Taken commands -/

/-- A command whose owning block answers x and leaves t beside the taking. -/
theorem State.takeCommand_answers {s t : State} {p : Port} {k : Permitted} {x : Answer} {v : Vector Word 8} (h : s.Accepts p)
    (hk : k.at p = true) {body : State → State × Answer} (hb : body (s.taking p v) = (t.taking p v, x)) :
    s.takeCommand p k body v = t.answered p x v := by
  rw [State.takeCommand_accepts h hk, hb]
  exact State.setPort_busy_taking ..

/-- A command of a station port whose owning block answers x and leaves t beside the taking. -/
theorem State.stationCommand_answers {s t : State} {n : Nest} {x : Answer} {v : Vector Word 8} (h : s.Accepts n.port)
    {body : Nest → State → State × Answer} (hb : body n (s.taking n.port v) = (t.taking n.port v, x)) :
    s.stationCommand n.port body v = t.answered n.port x v := by
  rw [State.stationCommand_accepts h, hb]
  exact State.setPort_busy_taking ..

/-- A command of a station port whose owning block answers x, posts one notice there and leaves t beside the taking. -/
theorem State.stationCommand_notices {s t : State} {n : Nest} {x : Answer} {b : NoticeBody} (h : s.Accepts n.port)
    {body : Nest → State → State × Answer}
    (hb : body n (s.taking n.port wholeParams) = ((t.taking n.port wholeParams).postStation n b, x)) :
    s.stationCommand n.port body = t.answeredNotice n x b := by
  rw [State.stationCommand_accepts h, hb]
  exact State.setPort_busy_noticed ..

/-! ## Several notices of one event (R175) -/

/-- Notices posted to one port, in order. -/
def PortWindow.postAll (w : PortWindow) (n : Nest) (l : List NoticeBody) : PortWindow := l.foldl (fun w b => w.post ⟨n, b⟩) w

theorem PortWindow.postAll_mode (w : PortWindow) (n : Nest) (l : List NoticeBody) (m : PortMode) :
    { w.postAll n l with mode := m } = PortWindow.postAll { w with mode := m } n l := by
  induction l generalizing w with
  | nil => rfl
  | cons b l ih =>
    show { (w.post ⟨n, b⟩).postAll n l with mode := m } = (PortWindow.post { w with mode := m } ⟨n, b⟩).postAll n l
    rw [ih, PortWindow.post_mode]

theorem State.postAll_eq (s : State) (n : Nest) (l : List NoticeBody) :
    s.postAll n l = s.setPort n.port ((s.port n.port).postAll n l) := by
  induction l generalizing s with
  | nil => simp [State.postAll, PortWindow.postAll]
  | cons b l ih =>
    show (s.postStation n b).postAll n l = _
    rw [ih, State.port_postStation, State.postStation, State.post, State.setPort_setPort]
    rfl

/-- A command of a station port whose owning block answers x, posts several notices there and leaves t beside the taking. -/
theorem State.stationCommand_noticesAll {s t : State} {n : Nest} {x : Answer} {l : List NoticeBody} (h : s.Accepts n.port)
    {body : Nest → State → State × Answer}
    (hb : body n (s.taking n.port wholeParams) = ((t.taking n.port wholeParams).postAll n l, x)) :
    s.stationCommand n.port body = t.setPort n.port (((t.port n.port).taken x).postAll n l) := by
  rw [State.stationCommand_accepts h, hb, State.postAll_eq, State.port_setPort, PortWindow.postAll_mode, State.port_taking,
    State.setPort_setPort, State.setPort_taking]
  rfl

/-! ## Fixture operations at a station port -/

theorem State.postFixture_eq (s : State) (n : Nest) (d : FixtureDetail) :
    s.postFixture n d = s.postStation n (.fixtureState (s.fix n).state d) := rfl

theorem State.postStation_eq (s : State) (n : Nest) (b : NoticeBody) :
    s.postStation n b = s.setPort n.port ((s.port n.port).post ⟨n, b⟩) := rfl

end Sys2Proof.Machine
end

section
/-! PROOFS. The fixture cycle (Chapter 2) and SET WEAR LIMIT (R60). -/

namespace Sys2Proof.Machine

/-! ## CLAMP and SCAN (R31, R33, R53) -/

theorem Fxc.mem_scanSet (f : Fxc) (k : Fin 32) : k ∈ f.scanSet ↔ f.lines[k].role ≠ .unused ∧ f.lines[k].path ≠ .lost := by
  simp [Fxc.scanSet, Line.used, List.mem_finRange]

theorem Fxc.scanSet_ascending (f : Fxc) : f.scanSet.Pairwise (· < ·) := (List.pairwise_lt_finRange 32).filter _

/-- R31: CLAMP where all four checks pass. -/
theorem execClamp_starts {s : State} {n : Nest} (h : s.Accepts n.port) (hslot : s.pru.slots.get n = none)
    (hopen : (s.fix n).state = .opened) (hstop : s.stop = false) (hlid : (s.fix n).lid = true) :
    exec (.clamp n.port) s = .next ((s.setFix n ((s.fix n).startClamp s.ms)).answeredNotice n (okWith [])
      (.fixtureState ((s.fix n).startClamp s.ms).state .clampStarted)) := by
  refine congrArg Host.Outcome.next (State.stationCommand_notices h ?_)
  simp [State.awaitsOperator, hslot, hopen, hstop, hlid, accept, okWith, State.postFixture_eq]

/-- Settles O25: each check of CLAMP refuses in its turn, and the fixture then moves as startClamp says; SCAN starts over scanSet. -/
theorem clampAndScanResult : Obligations.ClampAndScanResult := by
  intro n s h f
  refine ⟨fun hslot => ?awaits, fun hslot hstate => ?notOpen, fun hslot hopen hstop => ?stopped, fun hslot hopen hstop hlid => ?lid,
    fun hslot hopen hstop hlid => ⟨fun hclosed => ?closed, fun hclosed => ?closing⟩, fun hno => ?scanRefused,
    fun hclamped hpress => ⟨f.scanSet, f.scanSet_ascending, f.mem_scanSet, ?scanStarts⟩⟩
  case awaits =>
    refine congrArg Host.Outcome.next (State.stationCommand_answers h ?_)
    have hsome : (s.pru.slots.get n).isSome = true := Option.isSome_iff_ne_none.mpr hslot
    simp [State.awaitsOperator, hsome, refuse]
  case notOpen =>
    refine congrArg Host.Outcome.next (State.stationCommand_answers h ?_)
    simp [State.awaitsOperator, hslot, show (s.fix n).state ≠ .opened from hstate, refuse]
  case stopped =>
    refine congrArg Host.Outcome.next (State.stationCommand_answers h ?_)
    simp [State.awaitsOperator, hslot, show (s.fix n).state = .opened from hopen, hstop, refuse]
  case lid =>
    refine congrArg Host.Outcome.next (State.stationCommand_answers h ?_)
    simp [State.awaitsOperator, hslot, show (s.fix n).state = .opened from hopen, hstop, show (s.fix n).lid = false from hlid, refuse]
  case closed => rw [execClamp_starts h hslot hopen hstop hlid]; simp [Fxc.startClamp, f, show (s.fix n).closed = true from hclosed]
  case closing => rw [execClamp_starts h hslot hopen hstop hlid]; simp [Fxc.startClamp, f, show (s.fix n).closed = false from hclosed]
  case scanRefused =>
    refine congrArg Host.Outcome.next (State.stationCommand_answers h ?_)
    simp only [State.taking_keeps, refuse]
    exact if_pos hno
  case scanStarts =>
    refine congrArg Host.Outcome.next (State.stationCommand_notices h ?_)
    simp only [State.taking_keeps, State.setFix_taking, State.postFixture_eq, State.fix_setFix]
    have hboth : ¬ ((s.fix n).state ≠ .clamped ∨ (s.fix n).pressure = false) := by
      rintro (hstate | hlost)
      · exact hstate hclamped
      · exact Bool.false_ne_true (hlost.symm.trans hpress)
    exact if_neg hboth

/-! ## UNCLAMP (R38, R44) -/

/-- The fixture states, with its run and permit, in which UNCLAMP releases the fixture. -/
def State.mayRelease (s : State) (n : Nest) : Prop :=
  (s.fix n).state = .clamped ∨ (s.fix n).state = .contacted ∧ (s.run n).state.isOpen = false ∨
    (s.fix n).state = .fault ∧ (s.fix n).permit = true

theorem State.releaseFixture_taking (s : State) (n : Nest) :
    (s.taking n.port wholeParams).releaseFixture n =
      (((s.setFix n ((s.fix n).startRelease s.ms)).taking n.port wholeParams).postStation n
        (.fixtureState ((s.fix n).startRelease s.ms).state .unclamp), okWith []) := by
  simp [State.releaseFixture, accept, okWith, State.postFixture_eq]

/-- R38, R44: UNCLAMP where it releases the fixture. -/
theorem execUnclamp_releases {s : State} {n : Nest} (h : s.Accepts n.port) (hr : s.mayRelease n) :
    exec (.unclamp n.port) s = .next ((s.setFix n ((s.fix n).startRelease s.ms)).answeredNotice n (okWith [])
      (.fixtureState ((s.fix n).startRelease s.ms).state .unclamp)) := by
  refine congrArg Host.Outcome.next (State.stationCommand_notices h ?_)
  rcases hr with hs | ⟨hs, hrun⟩ | ⟨hs, hpermit⟩
  · simp [hs, State.releaseFixture_taking]
  · simp [hs, hrun, State.releaseFixture_taking]
  · simp [hs, hpermit, State.releaseFixture_taking]

/-- Settles O26, by the fixture state. -/
theorem unclampResult : Obligations.UnclampResult := by
  intro n s h f isOpen
  refine ⟨fun hr => ?releases, fun hs hpermit => ?awaits, fun hs => ?refused⟩
  case releases =>
    rw [execUnclamp_releases h hr]
    constructor <;> intro hhome <;> simp [Fxc.startRelease, f, show (s.fix n).home = _ from hhome]
  case awaits =>
    refine congrArg Host.Outcome.next (State.stationCommand_answers h ?_)
    simp [show (s.fix n).state = .fault from hs, show (s.fix n).permit = false from hpermit, refuse]
  case refused =>
    refine congrArg Host.Outcome.next (State.stationCommand_answers h ?_)
    simp only [f, isOpen] at hs
    rcases hs with ⟨hs, hrun⟩ | hs | hs | hs | hs
    · simp [hs, hrun, refuse]
    all_goals simp [hs, refuse]

/-! ## SET FIXTURE TIMING and SET WEAR LIMIT (R30, R60) -/

theorem Fxc.mem_newlyWorn (f : Fxc) (v : Nat) (k : Fin 32) :
    k ∈ f.newlyWorn (f.lines.map fun l => l.setWorn v) ↔ f.lines[k].worn = false ∧ v ≤ f.lines[k].count := by
  simp [Fxc.newlyWorn, Line.setWorn, List.mem_finRange]

theorem Fxc.newlyWorn_ascending (f : Fxc) (new : Vector Line 32) : (f.newlyWorn new).Pairwise (· < ·) :=
  (List.pairwise_lt_finRange 32).filter _

theorem PortWindow.postAll_wear (w : PortWindow) (n : Nest) (l : List (Fin 32)) :
    w.postAll n (l.map .wear) = l.foldl (fun w k => w.post ⟨n, .wear k⟩) w := List.foldl_map

/-- Settles O27. -/
theorem fixtureSettingsResult : Obligations.FixtureSettingsResult := by
  intro n s h f c r v
  refine ⟨fun hbad => ?timingRefused, fun hc hc' hr hr' => ?timing, fun hbad => ?limitRefused, fun hv hv' =>
    ⟨f.newlyWorn (f.lines.map fun l => l.setWorn v), f.newlyWorn_ascending _, f.mem_newlyWorn v, ?limit⟩⟩
  case timingRefused =>
    refine congrArg Host.Outcome.next (State.stationCommand_answers h ?_)
    simp only [State.param_taking, refuse]
    refine if_neg ?_
    simp only [fixtureTimeoutOk, Bool.and_eq_true, decide_eq_true_eq]
    omega
  case timing =>
    refine congrArg Host.Outcome.next (State.stationCommand_answers h ?_)
    simp only [State.param_taking, State.taking_keeps, State.setFix_taking]
    exact if_pos (by simp [fixtureTimeoutOk, c, r] at *; omega)
  case limitRefused =>
    refine congrArg Host.Outcome.next (State.stationCommand_answers h ?_)
    simp only [State.param32_taking, refuse]
    exact if_pos hbad
  case limit =>
    rw [← PortWindow.postAll_wear]
    refine congrArg Host.Outcome.next (State.stationCommand_noticesAll h (t := s.setFix n { f with
      wearLimit := v, lines := f.lines.map fun l => { l with worn := decide (v ≤ l.count) } }) ?_)
    have hrange : ¬ (v = 0 ∨ Config.wearLimitMax < v) := by simp only [Config.wearLimitMax]; omega
    simp only [State.param32_taking, State.taking_keeps, State.setFix_taking, State.wearLines, State.fix_setFix, State.setFix_setFix]
    exact if_neg hrange

/-! ## READ FIXTURE STATUS (R46, Table 10-11) -/

theorem FixtureState.num_lt (x : FixtureState) : x.num < 8 := by cases x <;> decide

theorem FaultCause.num_lt (x : FaultCause) : x.num < 8 := by cases x <;> decide

theorem ScanResult.num_lt (x : ScanResult) : x.num < 8 := by cases x <;> decide

theorem flagBit_of_bitField {w : Word} {k : Nat} {b : Bool} (h : bitField w k 1 = flagNat b) : flagBit w k = b := by
  rw [flagBit_eq, h, flagNat_eq_one]

/-- Table 10-11: the first word of READ FIXTURE STATUS. -/
def Fxc.statusWord (f : Fxc) : Word :=
  packWord [(f.state.num, 0, 3), (f.cause.num, 4, 3), (flagNat f.permit, 7, 1), (flagNat f.lid, 8, 1), (flagNat f.home, 9, 1),
    (flagNat f.closed, 10, 1), (flagNat f.pressure, 11, 1), (flagNat f.state.clampDrive, 12, 1), (flagNat f.state.supplyRelay, 13, 1)]

/-- Table 10-11: the last word of READ FIXTURE STATUS. -/
def Fxc.scanWord (f : Fxc) : Word :=
  packWord [(f.scanResult.num, 0, 3), ((f.firstFail.map Fin.val).getD 0, 8, 5), (flagNat f.firstFail.isSome, 15, 1)]

theorem Fxc.statusWords_eq (f : Fxc) :
    f.statusWords = [f.statusWord, BitVec.ofNat 16 f.clampTimeout, BitVec.ofNat 16 f.releaseTimeout, f.scanWord] := rfl

theorem Fxc.statusWord_fields (f : Fxc) :
    let w := f.statusWord
    bitField w 0 3 = f.state.num ∧ bitField w 4 3 = f.cause.num ∧ bitField w 7 1 = flagNat f.permit ∧
    bitField w 8 1 = flagNat f.lid ∧ bitField w 9 1 = flagNat f.home ∧ bitField w 10 1 = flagNat f.closed ∧
    bitField w 11 1 = flagNat f.pressure ∧ bitField w 12 1 = flagNat f.state.clampDrive ∧
    bitField w 13 1 = flagNat f.state.supplyRelay ∧ bitField w 3 1 = flagNat false ∧ bitField w 14 2 = 0 := by
  have hstate := f.state.num_lt
  have hcause := f.cause.num_lt
  have hpermit := flagNat_lt f.permit
  have hlid := flagNat_lt f.lid
  have hhome := flagNat_lt f.home
  have hclosed := flagNat_lt f.closed
  have hpressure := flagNat_lt f.pressure
  have hdrive := flagNat_lt f.state.clampDrive
  have hrelay := flagNat_lt f.state.supplyRelay
  have hreserved : flagNat false = 0 := rfl
  have hword : f.statusWord.toNat = f.state.num + f.cause.num * 16 + flagNat f.permit * 128 + flagNat f.lid * 256 +
      flagNat f.home * 512 + flagNat f.closed * 1024 + flagNat f.pressure * 2048 + flagNat f.state.clampDrive * 4096 +
      flagNat f.state.supplyRelay * 8192 := by
    rw [Fxc.statusWord, toNat_packWord]
    simp only [List.map_cons, List.map_nil, List.sum_cons, List.sum_nil]
    omega
  simp only [bitField, hword]
  omega

theorem Fxc.scanWord_fields (f : Fxc) :
    let x := f.scanWord
    bitField x 0 3 = f.scanResult.num ∧ bitField x 3 5 = 0 ∧ bitField x 8 5 = (f.firstFail.map Fin.val).getD 0 ∧
    bitField x 13 2 = 0 ∧ bitField x 15 1 = flagNat f.firstFail.isSome := by
  have hresult := f.scanResult.num_lt
  have hflag := flagNat_lt f.firstFail.isSome
  have hline : (f.firstFail.map Fin.val).getD 0 < 32 := by cases f.firstFail <;> simp
  have hword : f.scanWord.toNat =
      f.scanResult.num + (f.firstFail.map Fin.val).getD 0 * 256 + flagNat f.firstFail.isSome * 32768 := by
    rw [Fxc.scanWord, toNat_packWord]
    simp only [List.map_cons, List.map_nil, List.sum_cons, List.sum_nil]
    omega
  simp only [bitField, hword]
  omega

theorem FixtureState.clampDrive_eq (x : FixtureState) :
    x.clampDrive = decide (x = .closing ∨ x = .clamped ∨ x = .scanning ∨ x = .contacted) := by cases x <;> rfl

theorem FixtureState.supplyRelay_eq (x : FixtureState) : x.supplyRelay = decide (x = .contacted) := by cases x <;> rfl

/-- Settles O28. -/
theorem readFixtureStatusResult : Obligations.ReadFixtureStatusResult := by
  intro n s h
  let f := s.fix n
  obtain ⟨hstate, hcause, hpermit, hlid, hhome, hclosed, hpressure, hdrive, hrelay, hbit3, hbits14⟩ := f.statusWord_fields
  obtain ⟨hresult, hbits3, hline, hbits13, hflag⟩ := f.scanWord_fields
  refine ⟨f.statusWord, f.scanWord, congrArg Host.Outcome.next (State.stationCommand_answers h ?_), hstate, hcause,
    flagBit_of_bitField hpermit, flagBit_of_bitField hlid, flagBit_of_bitField hhome, flagBit_of_bitField hclosed,
    flagBit_of_bitField hpressure, (flagBit_of_bitField hdrive).trans (FixtureState.clampDrive_eq _),
    (flagBit_of_bitField hrelay).trans (FixtureState.supplyRelay_eq _), flagBit_of_bitField hbit3, hbits14, hresult, hbits3, hbits13,
    flagBit_of_bitField hflag, fun hnone => ?none, fun k hsome => ?some⟩
  · simp [accept, okWith, Fxc.statusWords_eq, f]
  case none => rw [hline, show f.firstFail = none from hnone]; rfl
  case some => rw [hline, show f.firstFail = some k from hsome]; rfl

/-! ## Sense events (R29, Table 2-3) -/

/-- Settles O29: HOME and CLOSED act in the one state that waits for them. -/
theorem senseLevels : Obligations.SenseLevels := by
  intro n s f
  refine ⟨rfl, rfl, rfl, rfl, fun hs => ?homeStored, fun hs => ?homeEnds, fun hs => ?closedStored, fun hs => ?closedEnds⟩
  case homeStored => exact congrArg Host.Outcome.next (if_neg hs)
  case homeEnds =>
    refine congrArg Host.Outcome.next ((if_pos hs).trans ?_)
    simp [State.postFixture_eq, State.postStation_eq, f]
  case closedStored => exact congrArg Host.Outcome.next (if_neg hs)
  case closedEnds =>
    refine congrArg Host.Outcome.next ((if_pos hs).trans ?_)
    simp [State.postFixture_eq, State.postStation_eq, f]

end Sys2Proof.Machine
end

section
/-! PROOFS. Answers to prompts (R43, R99, R158 to R162). -/

namespace Sys2Proof.Machine

/-! ## The taking of an Operator Port command is independent of results at the nests -/

theorem State.postStation_taking_operator (s : State) (n : Nest) (b : NoticeBody) (v : Vector Word 8) :
    (s.taking .operator v).postStation n b = (s.postStation n b).taking .operator v := by
  cases n <;> rfl

/-- R19: a result goes to a record and to a station port, so it and the taking of an Operator Port command do not meet. -/
theorem State.result_taking_operator (s : State) (id : WorkId) (x : WorkResult) (v : Vector Word 8) :
    (s.taking .operator v).result id x = (s.result id x).taking .operator v := by
  simp only [State.result, State.taking_keeps]
  split
  · rfl
  · rw [State.setRun_taking, State.postStation_taking_operator]

theorem State.mapChans_taking (s : State) (p : Port) (f : Fin 16 → Channel → Channel) (v : Vector Word 8) :
    (s.taking p v).mapChans f = (s.mapChans f).taking p v := by
  simp only [State.mapChans, State.taking_keeps, State.setStu_taking]

theorem State.output_taking (s : State) (p : Port) (c : Fin 16) (v : Vector Word 8) : (s.taking p v).output c = s.output c := by
  simp only [State.output_eq, State.taking_keeps]

theorem State.syncGenerators_taking (s : State) (p : Port) (v : Vector Word 8) :
    (s.taking p v).syncGenerators = s.syncGenerators.taking p v := by
  simp only [State.syncGenerators, State.output_taking, State.taking_keeps, State.mapChans_taking]

theorem State.softCommit_taking (s : State) (p : Port) (n : Nest) (mask : Word) (v : Vector Word 8) :
    (s.taking p v).softCommit n mask = (s.softCommit n mask).taking p v := by
  simp only [State.softCommit, State.commitWhere, State.taking_keeps, State.mapChans_taking, State.syncGenerators_taking]
  split <;> rfl

theorem State.progress_taking (s : State) (p : Port) (id : WorkId) (k : Nat) (v : Vector Word 8) :
    (s.taking p v).progress id k = (s.progress id k).taking p v := by
  simp only [State.progress, State.taking_keeps]
  split <;> rfl

@[simp] theorem State.port_result_operator (s : State) (id : WorkId) (x : WorkResult) :
    (s.result id x).port .operator = s.port .operator := by
  unfold State.result
  split <;> simp

/-! ## What an answer changes -/

theorem State.settlePrompt_eq (s : State) (y : Prompt) (r : WorkResult) :
    s.settlePrompt y r = (s.setPru { s.pru with queue := s.pru.queue.filter fun x => x.id != y.id }).result y.id r := rfl

theorem State.settlePrompt_taking (s : State) (y : Prompt) (r : WorkResult) (v : Vector Word 8) :
    (s.taking .operator v).settlePrompt y r = (s.settlePrompt y r).taking .operator v := by
  simp only [State.settlePrompt_eq, State.taking_keeps, State.setPru_taking, State.result_taking_operator]

theorem State.acknowledged_eq (s : State) (n : Nest) :
    s.acknowledged n = s.setFix n { s.fix n with permit := if (s.fix n).state = .fault then true else (s.fix n).permit } := by
  unfold State.acknowledged
  split
  · rfl
  · exact (State.setFix_fix s n).symm

/-- The prompt after a REPEAT (R160). -/
def Prompt.repeated (y : Prompt) (now : Nat) : Prompt :=
  { y with attempts := y.attempts + 1, timer := if y.timeout = 0 then .stopped else .running (now + y.timeout * 1000) }

theorem State.changePrompt_progress (s : State) (id id' : WorkId) (k : Nat) (f : Prompt → Prompt) :
    (s.progress id k).changePrompt id' f = (s.changePrompt id' f).progress id k := by
  simp only [State.progress, State.changePrompt_keeps]
  split <;> rfl

theorem State.changePrompt_changePrompt (s : State) (id : WorkId) (f g : Prompt → Prompt) (hf : ∀ x, (f x).id = x.id) :
    (s.changePrompt id f).changePrompt id g = s.changePrompt id (g ∘ f) := by
  have hq : s.pru.queue.map ((fun x => if x.id = id then g x else x) ∘ fun x => if x.id = id then f x else x) =
      s.pru.queue.map fun x => if x.id = id then (g ∘ f) x else x :=
    List.map_congr_left fun x _ => by by_cases hx : x.id = id <;> simp [hx, hf]
  simp only [State.changePrompt, State.setPrompts, State.setPru_pru, List.map_map, hq]
  rfl

/-- R160: what REPEAT does, with the two changes of the prompt made at once. -/
theorem State.repeatPrompt_eq (s : State) (y : Prompt) :
    s.repeatPrompt y = ((s.softCommit y.id.nest y.repeatMask).setPru { s.pru with
      queue := s.pru.queue.map fun x => if x.id = y.id then x.repeated s.ms else x }).progress y.id (y.attempts + 1) := by
  rw [State.repeatPrompt, State.changePrompt_progress, State.changePrompt_changePrompt]
  · simp only [State.changePrompt, State.setPrompts, State.softCommit_keeps]
    rfl
  · exact fun _ => rfl

theorem State.repeatPrompt_taking (s : State) (y : Prompt) (p : Port) (v : Vector Word 8) :
    (s.taking p v).repeatPrompt y = (s.repeatPrompt y).taking p v := by
  simp only [State.repeatPrompt_eq, State.softCommit_taking, State.setPru_taking, State.progress_taking, State.taking_keeps]

/-- R90, R94: the channels that take a soft commit for a nest whose run is ACTIVE. -/
theorem softSelect_active {active : Nest → Bool} {n : Nest} (ha : active n = true) {mask : Word} {c : Fin 16} {ch : Channel} :
    softSelect n mask c ch = true ∧ ch.ownerActive active = true ↔ inMask mask c = true ∧ ch.owner = some n ∧ ch.source = .soft := by
  simp only [softSelect, Bool.and_eq_true, beq_iff_eq, and_assoc]
  refine ⟨fun ⟨hmask, howner, hsource, _⟩ => ⟨hmask, howner, hsource⟩, fun ⟨hmask, howner, hsource⟩ => ⟨hmask, howner, hsource, ?_⟩⟩
  simp [Channel.ownerActive, howner, ha]

/-- R84: the generators follow a commit event. -/
theorem State.adopt_commitWhere (s : State) (sel : Fin 16 → Channel → Bool) (c : Fin 16) : GeneratorsAdopt s (s.commitWhere sel) c := by
  have hgen : ∀ (b : Bool) (x : Channel), (if b then x.commit (chanTop c) else x).rate = x.rate ∧
      (if b then x.commit (chanTop c) else x).periodEnd = x.periodEnd := by
    intro b x
    obtain ⟨hrate, hend, -⟩ := x.commit_generator (chanTop c)
    cases b
    · exact ⟨rfl, rfl⟩
    · exact ⟨hrate, hend⟩
  refine GeneratorsAdopt_sync ?_ ?_ rfl <;> rw [State.chan_mapChans]
  · exact (hgen _ _).1
  · exact (hgen _ _).2

/-- R99: what a soft commit for a nest does to the STU. -/
theorem State.softCommit_does (s : State) (n : Nest) (mask : Word) :
    let c := s.softCommit n mask
    c = s.setStu c.stu ∧ c.stu.pace = s.stu.pace ∧ (s.active n = false → c.stu = s.stu) ∧
    (s.active n = true → (∀ k, GeneratorsAdopt s c k) ∧ ∀ k : Fin 16, (c.chan k).sameRecord
      (if inMask mask k = true ∧ (s.chan k).owner = some n ∧ (s.chan k).source = .soft then (s.chan k).commit (chanTop k)
        else s.chan k)) := by
  cases ha : s.active n with
  | false =>
    have hc : s.softCommit n mask = s := if_neg (by simp [ha])
    exact ⟨by rw [hc]; rfl, by rw [hc], fun _ => by rw [hc], nofun⟩
  | true =>
    have hc : s.softCommit n mask = s.commitWhere (softSelect n mask) := if_pos ha
    refine ⟨by rw [hc]; rfl, by rw [hc]; rfl, nofun, fun _ => ⟨fun k => ?_, fun k => ?_⟩⟩
    · exact hc ▸ State.adopt_commitWhere s _ k
    · rw [hc]
      have h := State.chan_commitWhere s (softSelect n mask) k
      simpa only [softSelect_active ha] using h

/-! ## ANSWER PROMPT and DECLINE PROMPT (R158 to R161) -/

/-- R158, R161: a state after an answer, with the response that counts its presentable prompts. -/
def State.answerTaken (t : State) : State := t.answered .operator (okWith [BitVec.ofNat 16 (t.pru.presentableSet t.active).length])

theorem acceptAnswer_taking (t : State) (v : Vector Word 8) :
    acceptAnswer (t.taking .operator v) =
      (t.taking .operator v, okWith [BitVec.ofNat 16 (t.pru.presentableSet t.active).length]) := by
  simp [acceptAnswer, accept, okWith, wordOfNat, State.presentableCount]

theorem Pru.ticketed?_some {u : Pru} {x : AnyPrompt} {ticket : Word} (hx : u.presented? = some x)
    (ht : x.pres = .presented ticket.toNat) : u.ticketed? ticket = some x := by
  simp [Pru.ticketed?, hx, Option.filter, ht]

theorem Pru.ticketed?_none {u : Pru} {ticket : Word} (h : ∀ x, u.presented? = some x → x.pres ≠ .presented ticket.toNat) :
    u.ticketed? ticket = none := by
  cases hx : u.presented? with
  | none => simp [Pru.ticketed?, hx]
  | some x => simp [Pru.ticketed?, hx, Option.filter, h x hx]

/-- R158 step 2: the codes an answer set admits. -/
theorem AnswerSet.admits_iff {set : AnswerSet} {k : Nat} {a : PromptAnswer} (hk : promptAnswerOf k = some a) :
    set.admits a = true ↔
      set = .ackOnly ∧ k = 1 ∨ set = .yesNo ∧ (k = 2 ∨ k = 3) ∨ set = .yesNoRepeat ∧ (k = 2 ∨ k = 3 ∨ k = 4) := by
  unfold promptAnswerOf at hk
  split at hk <;> cases hk <;> cases set <;> simp [AnswerSet.admits]

/-- R158 step 1. -/
theorem execAnswerPrompt_stale {s : State} (h : s.Accepts .operator) (ht : s.pru.ticketed? (s.param .operator 0) = none) :
    exec (.answerPrompt .operator) s = .next (s.answered .operator (.complete .stale [])) := by
  refine congrArg Host.Outcome.next (State.takeCommand_answers h rfl ?_)
  simp [ht, refuse]

/-- R161: a decline quotes the ticket too. -/
theorem execDeclinePrompt_stale {s : State} (h : s.Accepts .operator) (ht : s.pru.ticketed? (s.param .operator 0) = none) :
    exec (.declinePrompt .operator) s = .next (s.answered .operator (.complete .stale [])) := by
  refine congrArg Host.Outcome.next (State.takeCommand_answers h rfl ?_)
  simp [ht, refuse]

section
variable {s : State} {n : Nest} {x : SysPrompt} (h : s.Accepts .operator)
  (ht : s.pru.ticketed? (s.param .operator 0) = some (.system n x))
include h ht

/-- R158 step 2 for a system prompt, which admits ACK alone. -/
theorem execAnswerPrompt_systemRange (hne : (s.param .operator 1).toNat ≠ 1) :
    exec (.answerPrompt .operator) s = .next (s.answered .operator (.complete .range [])) := by
  refine congrArg Host.Outcome.next (State.takeCommand_answers h rfl ?_)
  cases ha : promptAnswerOf (s.param .operator 1).toNat with
  | none => simp [ht, ha, refuse]
  | some a =>
    have hno : AnswerSet.ackOnly.admits a ≠ true := by simpa [AnswerSet.admits_iff ha] using hne
    simp [ht, ha, hno, refuse]

/-- R161: a system prompt is not declined. -/
theorem execDeclinePrompt_system :
    exec (.declinePrompt .operator) s = .next (s.answered .operator (.complete .wrongState [])) := by
  refine congrArg Host.Outcome.next (State.takeCommand_answers h rfl ?_)
  simp [ht, refuse]

/-- R43: ACK of a system prompt. -/
theorem execAnswerPrompt_acknowledges (hack : (s.param .operator 1).toNat = 1) :
    exec (.answerPrompt .operator) s = .next ((s.setSlot n none).acknowledged n).answerTaken := by
  refine congrArg Host.Outcome.next (State.takeCommand_answers h rfl ?_)
  have ha : promptAnswerOf (s.param .operator 1).toNat = some .ack := by rw [hack]; rfl
  have htaking : ((s.taking .operator wholeParams).setSlot n none).acknowledged n =
      ((s.setSlot n none).acknowledged n).taking .operator wholeParams := by
    rw [State.acknowledged_eq, State.acknowledged_eq]
    rfl
  simp only [State.taking_keeps, State.param_taking, ht, ha, htaking]
  exact acceptAnswer_taking ..

end

section
variable {s : State} {y : Prompt} (h : s.Accepts .operator)
  (ht : s.pru.ticketed? (s.param .operator 0) = some (.ordinary y))
include h ht

/-- R158 step 2 for an ordinary prompt. -/
theorem execAnswerPrompt_range (hno : ∀ a, promptAnswerOf (s.param .operator 1).toNat = some a → y.answers.admits a = false) :
    exec (.answerPrompt .operator) s = .next (s.answered .operator (.complete .range [])) := by
  refine congrArg Host.Outcome.next (State.takeCommand_answers h rfl ?_)
  cases ha : promptAnswerOf (s.param .operator 1).toNat with
  | none => simp [ht, ha, refuse]
  | some a => simp [ht, ha, hno a ha, refuse]

/-- R159: ACK, YES and NO. -/
theorem execAnswerPrompt_settles {a : PromptAnswer} {r : WorkResult} (ha : promptAnswerOf (s.param .operator 1).toNat = some a)
    (hadmits : y.answers.admits a = true) (hr : a.result? y.attempts = some r) :
    exec (.answerPrompt .operator) s = .next (s.settlePrompt y r).answerTaken := by
  refine congrArg Host.Outcome.next (State.takeCommand_answers h rfl ?_)
  simp only [State.taking_keeps, State.param_taking, ht, ha, hadmits, hr, State.settlePrompt_taking]
  exact acceptAnswer_taking ..

/-- R158 step 3. -/
theorem execAnswerPrompt_limit (ha : promptAnswerOf (s.param .operator 1).toNat = some .again)
    (hadmits : y.answers.admits .again = true) (hlimit : 4 ≤ y.attempts) :
    exec (.answerPrompt .operator) s = .next (s.answered .operator (.complete .limit [])) := by
  refine congrArg Host.Outcome.next (State.takeCommand_answers h rfl ?_)
  simp [ht, ha, hadmits, PromptAnswer.result?, hlimit, refuse]

/-- R160: REPEAT. -/
theorem execAnswerPrompt_repeats (ha : promptAnswerOf (s.param .operator 1).toNat = some .again)
    (hadmits : y.answers.admits .again = true) (hroom : y.attempts < 4) :
    exec (.answerPrompt .operator) s = .next (s.repeatPrompt y).answerTaken := by
  refine congrArg Host.Outcome.next (State.takeCommand_answers h rfl ?_)
  simp only [State.taking_keeps, State.param_taking, ht, ha, hadmits, PromptAnswer.result?, State.repeatPrompt_taking]
  rw [if_neg (by simp), if_neg (by omega)]
  exact acceptAnswer_taking ..

/-- R161: a decline of an ordinary prompt. -/
theorem execDeclinePrompt_settles :
    exec (.declinePrompt .operator) s = .next (s.settlePrompt y ⟨.noResult, .withdrawn, y.attempts, none⟩).answerTaken := by
  refine congrArg Host.Outcome.next (State.takeCommand_answers h rfl ?_)
  simp only [State.taking_keeps, State.param_taking, ht, State.settlePrompt_taking]
  exact acceptAnswer_taking ..

end

/-! ## ANSWER TIMER EXPIRY (R162) -/

/-- Where no ordinary prompt is presented with its timer due, nothing happens. -/
theorem execAnswerTimerExpiry_idle {s : State}
    (h : ∀ y e, s.pru.presented? = some (.ordinary y) → y.timer = .running e → s.ms < e) : exec .answerTimerExpiry s = .next s := by
  refine congrArg Host.Outcome.next ?_
  split
  case h_1 y hy =>
    refine if_neg ?_
    cases htimer : y.timer with
    | stopped => simp [Timer.due]
    | running e => simpa [Timer.due] using h y e hy htimer
  case h_2 => rfl
  case h_3 => rfl

theorem execAnswerTimerExpiry_due {s : State} {y : Prompt} {e ticket : Nat} (hy : s.pru.presented? = some (.ordinary y))
    (ht : y.pres = .presented ticket) (htimer : y.timer = .running e) (hdue : e ≤ s.ms) :
    exec .answerTimerExpiry s = .next ((s.settlePrompt y ⟨.noResult, .timeout, y.attempts, none⟩).postOperator y.id.nest
      (.promptWithdrawn ticket .timeout)) := by
  refine congrArg Host.Outcome.next ?_
  simp [hy, ht, htimer, Timer.due, hdue, Presentation.ticket?]

theorem State.settlePrompt_postOperator (s : State) (y : Prompt) (r : WorkResult) (b : NoticeBody) :
    (s.settlePrompt y r).postOperator y.id.nest b =
      (s.settlePrompt y r).setPort .operator ((s.port .operator).post ⟨y.id.nest, b⟩) := by
  simp [State.postOperator, State.post, State.settlePrompt]

/-! ## The statement -/

/-- Settles O54: the presented prompt, its ticket and the answer's code decide the clause; each answer is then one of the lemmas above. -/
theorem promptsAnswered : Obligations.PromptsAnswered := by
  constructor
  case left =>
    intro s h u ticket answer refused ends settled
    refine ⟨fun hstale => ?stale, fun n x hx ht => ?system, fun y hy ht => ?ordinary⟩
    case stale =>
      have hticket : s.pru.ticketed? (s.param .operator 0) = none := Pru.ticketed?_none hstale
      exact ⟨execAnswerPrompt_stale h hticket, execDeclinePrompt_stale h hticket⟩
    case system =>
      have hticket : s.pru.ticketed? (s.param .operator 0) = some (.system n x) := Pru.ticketed?_some hx ht
      refine ⟨execDeclinePrompt_system h hticket, execAnswerPrompt_systemRange h hticket, fun hack => ?_⟩
      refine (execAnswerPrompt_acknowledges h hticket hack).trans ?_
      rw [State.acknowledged_eq]
      rfl
    case ordinary =>
      have hticket : s.pru.ticketed? (s.param .operator 0) = some (.ordinary y) := Pru.ticketed?_some hy ht
      intro admitted
      have hcode : ∀ {k a}, answer = k → promptAnswerOf k = some a → promptAnswerOf (s.param .operator 1).toNat = some a :=
        fun hk ha => (congrArg promptAnswerOf hk).trans ha
      have hadmits : ∀ {a}, promptAnswerOf (s.param .operator 1).toNat = some a → (y.answers.admits a = true ↔ admitted) :=
        fun ha => AnswerSet.admits_iff ha
      have hsettles : ∀ {k a r}, admitted → answer = k → promptAnswerOf k = some a → a.result? y.attempts = some r →
          exec (.answerPrompt .operator) s = .next (s.settlePrompt y r).answerTaken :=
        fun hadm hk ha => execAnswerPrompt_settles h hticket (hcode hk ha) ((hadmits (hcode hk ha)).mpr hadm)
      refine ⟨execDeclinePrompt_settles h hticket, fun hno => ?notAdmitted, fun hadm hk => hsettles hadm hk rfl rfl,
        fun hadm hk => hsettles hadm hk rfl rfl, fun hadm hk => hsettles hadm hk rfl rfl, fun hadm hk hlimit => ?limit,
        fun hadm hk hroom => ?again⟩
      case notAdmitted =>
        exact execAnswerPrompt_range h hticket fun a ha => Bool.eq_false_iff.mpr fun hadm => hno ((hadmits ha).mp hadm)
      case limit => exact execAnswerPrompt_limit h hticket (hcode hk rfl) ((hadmits (hcode hk rfl)).mpr hadm) hlimit
      case again =>
        obtain ⟨hstu, hpace, hinactive, hactive⟩ := State.softCommit_does s y.id.nest y.repeatMask
        refine ⟨s.softCommit y.id.nest y.repeatMask, _, hstu, hpace, hinactive, hactive, ?_⟩
        refine (execAnswerPrompt_repeats h hticket (hcode hk rfl) ((hadmits (hcode hk rfl)).mpr hadm) hroom).trans ?_
        rw [State.repeatPrompt_eq]
        rfl
  case right =>
    intro s u
    refine ⟨execAnswerTimerExpiry_idle, fun y e ticket hy ht htimer hdue => ?_⟩
    rw [execAnswerTimerExpiry_due hy ht htimer hdue, State.settlePrompt_postOperator]
    rfl

end Sys2Proof.Machine
end

section
/-! PROOFS. POWER ON (R177 and the reset rules of each chapter). -/

namespace Sys2Proof.Machine

/-! ## Each block after power-on -/

/-- The fixture at power-on: everything but the pins' levels and the release is Fxc.powerOn (R47, R64). -/
theorem Fxc.atPowerOn_eq (f : Fxc) : f.atPowerOn = { Fxc.powerOn with
    lid := f.lid, home := f.home, closed := f.closed, pressure := f.pressure
    state := if f.home then .opened else .releasing
    releaseTimer := if f.home then .stopped else .running Config.fixtureTimeoutPowerOn } := by
  unfold Fxc.atPowerOn Fxc.startRelease
  cases f.home <;> simp [Fxc.powerOn]

/-- The state after POWER ON. -/
def State.poweredOn (s : State) : State :=
  { State.reset with
    pending := s.pending, openChoices := s.openChoices, stop := s.stop, fxc := ⟨s.fxc.a.atPowerOn, s.fxc.b.atPowerOn⟩
    tri := s.tri.map TriggerLine.atPowerOn, mse := { Mse.powerOn with inputs := s.mse.inputs } }

theorem exec_powerOn (s : State) : exec .powerOn s = .next s.poweredOn := rfl

theorem State.poweredOn_port (s : State) (p : Port) : s.poweredOn.port p = PortWindow.powerOn := by cases p <;> rfl

theorem State.poweredOn_run (s : State) (n : Nest) : s.poweredOn.run n = Rnc.idle 0#16 := by cases n <;> rfl

theorem State.poweredOn_fix (s : State) (n : Nest) : s.poweredOn.fix n = (s.fix n).atPowerOn := by cases n <;> rfl

theorem State.poweredOn_chan (s : State) (c : Fin 16) : s.poweredOn.chan c = Channel.powerOn :=
  Vector.getElem_replicate ..

theorem State.poweredOn_pace (s : State) (n : Nest) : s.poweredOn.stu.pace.get n = Pace.off := by cases n <;> rfl

theorem State.poweredOn_tri (s : State) (l : Fin 4) : s.poweredOn.tri[l] = s.tri[l].atPowerOn := Vector.getElem_map ..

theorem State.poweredOn_bus (s : State) (n : Nest) : s.poweredOn.bus n = Beu.cleared := by cases n <;> rfl

theorem Beu.cleared_watch (i : Fin 8) : Beu.cleared.watches[i] = none := Vector.getElem_replicate ..

theorem Beu.cleared_bcast (k : Fin 24) : Beu.cleared.bcast[k] = Broadcast.cleared := Vector.getElem_replicate ..

theorem Beu.cleared_reply (k : Fin 16) : Beu.cleared.replies[k] = Reply.cleared := Vector.getElem_replicate ..

theorem Fxc.powerOn_line (k : Fin 32) : Fxc.powerOn.lines[k] = Line.unusedLine := Vector.getElem_replicate ..

theorem Fxc.powerOn_spare (i : Fin 6) : Fxc.powerOn.spares[i] = none := Vector.getElem_replicate ..

theorem PortWindow.powerOn_words (i : Fin 8) :
    PortWindow.powerOn.params[i] = 0#16 ∧ PortWindow.powerOn.named[i] = 0xFFFF#16 ∧ PortWindow.powerOn.resp[i] = 0#16 :=
  ⟨Vector.getElem_replicate .., Vector.getElem_replicate .., Vector.getElem_replicate ..⟩

theorem State.poweredOn_output (s : State) (c : Fin 16) : s.poweredOn.output c = 0 := by
  rw [State.output_eq, State.poweredOn_chan]; rfl

theorem State.poweredOn_routed (s : State) (c : Fin 16) : s.poweredOn.routed c = false := by
  have howner : s.poweredOn.stu.chans[c].owner = none := congrArg Channel.owner (s.poweredOn_chan c)
  simp only [State.routed, howner]

theorem State.poweredOn_cleared (s : State) : ClearedByReset s s.poweredOn := by
  refine ⟨rfl, rfl, rfl, fun p => ?port, s.poweredOn_run, fun n => ?fixture, fun c => ?channel, fun n => ?pace, fun l => ?trigger,
    fun n => ?bus, rfl, rfl, rfl, fun n => ?slots, rfl, rfl⟩
  case port =>
    rw [State.poweredOn_port]
    exact ⟨rfl, rfl, rfl, rfl, rfl, rfl, rfl, rfl, PortWindow.powerOn_words, rfl⟩
  case fixture =>
    rw [State.poweredOn_fix, Fxc.atPowerOn_eq]
    refine ⟨rfl, rfl, rfl, rfl, rfl, rfl, rfl, rfl, rfl, rfl, ?_⟩
    cases (s.fix n).home
    · exact ⟨rfl, rfl⟩
    · exact ⟨rfl, rfl⟩
  case channel =>
    rw [State.poweredOn_output, State.poweredOn_routed, State.poweredOn_chan]
    exact ⟨rfl, rfl, rfl, rfl, rfl, rfl, rfl, rfl, rfl, rfl, rfl, rfl, rfl, rfl, rfl, rfl, (ite_self _).symm⟩
  case pace => rw [State.poweredOn_pace]; exact ⟨rfl, rfl⟩
  case trigger => rw [State.poweredOn_tri]; exact ⟨rfl, rfl, rfl⟩
  case bus =>
    rw [State.poweredOn_bus]
    exact ⟨rfl, rfl, rfl, rfl, rfl, Beu.cleared_watch, Beu.cleared_bcast, Beu.cleared_reply⟩
  case slots => cases n <;> rfl

/-- Settles O4, block by block. -/
theorem powerOnResult : Obligations.PowerOnResult := by
  intro s
  refine ⟨s.poweredOn, exec_powerOn s, s.poweredOn_cleared, rfl, fun n => ?fixture, fun c => ?channel, fun l => ?trigger,
    fun n => ?engine⟩
  case fixture =>
    rw [State.poweredOn_fix, Fxc.atPowerOn_eq]
    exact ⟨rfl, rfl, rfl, Fxc.powerOn_line, Fxc.powerOn_spare⟩
  case channel => rw [State.poweredOn_chan]; rfl
  case trigger => rw [State.poweredOn_tri]; rfl
  case engine => cases n <;> exact ⟨rfl, rfl⟩

end Sys2Proof.Machine
end

section
/-! PROOFS. CONFIGURE CHANNEL (R86, R91, R92) and what a commit event does to a channel (R94 to R98). -/

namespace Sys2Proof.Machine

/-! ## The parameters of CONFIGURE CHANNEL (R91, Table 10-4) -/

theorem chanModeOf_eq_some {k : Nat} {m : ChanMode} : chanModeOf k = some m ↔ k = m.num := by
  constructor
  · intro h
    unfold chanModeOf at h
    split at h <;> cases h <;> rfl
  · rintro rfl
    cases m <;> rfl

theorem commitSourceOf_eq_some {k : Nat} {x : CommitSource} : commitSourceOf k = some x ↔ k = x.num := by
  constructor
  · intro h
    unfold commitSourceOf at h
    split at h <;> cases h <;> rfl
  · rintro rfl
    cases x <;> rfl

theorem edgeSelOf_eq_some {k : Nat} {e : EdgeSel} : edgeSelOf k = some e ↔ k = e.num := by
  constructor
  · intro h
    unfold edgeSelOf at h
    split at h <;> cases h <;> rfl
  · rintro rfl
    cases e <;> rfl

theorem index?_eq_some {n x : Nat} {k : Fin n} : index? n x = some k ↔ x = k.val := by
  constructor
  · intro h
    unfold index? at h
    split at h <;> cases h
    rfl
  · rintro rfl
    exact index?_val k

theorem ChanMode.num_le (m : ChanMode) : m.num ≤ 3 := by cases m <;> decide

theorem CommitSource.num_le (x : CommitSource) : x.num ≤ 2 := by cases x <;> decide

theorem EdgeSel.num_le (e : EdgeSel) : e.num ≤ 3 := by cases e <;> decide

theorem ChanMode.num_eq_sweep {m : ChanMode} : m.num = 3 ↔ m = .sweep := by cases m <;> decide

theorem sweepPeriodOk_iff {N : Nat} : sweepPeriodOk N = true ↔ N ∈ [4, 8, 16, 32, 64] := by
  simp [sweepPeriodOk, or_assoc]

theorem chanKind_eq_switch {c : Fin 16} : chanKind c = .switch ↔ 14 ≤ c.val := by
  revert c; decide

/-- R91: the parameters CONFIGURE CHANNEL takes, and the configuration they spell. -/
theorem channelConfigOf_eq_some {c : Fin 16} {mode source line edge N q : Nat} {x : ChannelConfig} :
    channelConfigOf c mode source line edge N q = some x ↔
      mode = x.mode.num ∧ source = x.source.num ∧ line = x.line.val ∧ edge = x.edge.num ∧ N = x.sweepN ∧ q = x.startQ ∧
      N ∈ [4, 8, 16, 32, 64] ∧ q ≤ 3 ∧ (x.mode = .sweep → c.val < 14) := by
  constructor
  case mp =>
    intro h
    unfold channelConfigOf at h
    split at h
    case h_1 m src l e hm hs hl he =>
      split at h <;> cases h
      next hok =>
        simp only [Bool.and_eq_true, decide_eq_true_eq, Bool.not_eq_true', Bool.and_eq_false_imp, beq_iff_eq,
          beq_eq_false_iff_ne, ne_eq, chanKind_eq_switch, Nat.not_le, sweepPeriodOk_iff, and_assoc] at hok
        exact ⟨chanModeOf_eq_some.mp hm, commitSourceOf_eq_some.mp hs, index?_eq_some.mp hl, edgeSelOf_eq_some.mp he, rfl, rfl, hok⟩
    case h_2 => cases h
  case mpr =>
    rintro ⟨hm, hs, hl, he, rfl, rfl, hN, hq, hswitch⟩
    simp only [channelConfigOf, chanModeOf_eq_some.mpr hm, commitSourceOf_eq_some.mpr hs, index?_eq_some.mpr hl,
      edgeSelOf_eq_some.mpr he]
    refine if_pos ?_
    simp only [Bool.and_eq_true, decide_eq_true_eq, Bool.not_eq_true', Bool.and_eq_false_imp, beq_iff_eq,
      beq_eq_false_iff_ne, ne_eq, chanKind_eq_switch, Nat.not_le]
    exact ⟨⟨sweepPeriodOk_iff.mpr hN, hq⟩, hswitch⟩

/-- R91: the parameters CONFIGURE CHANNEL refuses with RANGE. -/
theorem channelConfigOf_eq_none {c : Fin 16} {mode source line edge N q : Nat}
    (h : 3 < mode ∨ 2 < source ∨ 3 < line ∨ 3 < edge ∨ N ∉ [4, 8, 16, 32, 64] ∨ 3 < q ∨ mode = 3 ∧ 14 ≤ c.val) :
    channelConfigOf c mode source line edge N q = none := by
  rw [Option.eq_none_iff_forall_ne_some]
  intro x hx
  obtain ⟨hm, hs, hl, he, -, -, hN, hq, hswitch⟩ := channelConfigOf_eq_some.mp hx
  have hmode := x.mode.num_le
  have hsource := x.source.num_le
  have hline := x.line.isLt
  have hedge := x.edge.num_le
  rcases h with hbig | hbig | hbig | hbig | hperiod | hbig | ⟨hsweep, hc⟩
  · omega
  · omega
  · omega
  · omega
  · exact hperiod hN
  · omega
  · have hlow : c.val < 14 := hswitch (ChanMode.num_eq_sweep.mp (hm.symm.trans hsweep))
    omega

/-! ## The checks before a channel command (R86) -/

theorem State.ownedChannel_range {s : State} {p : Port} (n : Nest) (k : Fin 16 → State × Answer)
    (h : 16 ≤ (s.param p 0).toNat) : s.ownedChannel p n k = refuse s .range := by
  rw [State.ownedChannel, index?_none (by omega)]

theorem State.ownedChannel_notOwner {s : State} {p : Port} {n : Nest} {c : Fin 16} (k : Fin 16 → State × Answer)
    (hc : (s.param p 0).toNat = c.val) (ho : (s.chan c).owner ≠ some n) : s.ownedChannel p n k = refuse s .notOwner := by
  rw [State.ownedChannel, index?_eq_some.mpr hc]
  exact if_pos ho

theorem State.ownedChannel_owned {s : State} {p : Port} {n : Nest} {c : Fin 16} (k : Fin 16 → State × Answer)
    (hc : (s.param p 0).toNat = c.val) (ho : (s.chan c).owner = some n) : s.ownedChannel p n k = k c := by
  rw [State.ownedChannel, index?_eq_some.mpr hc]
  exact if_neg fun hno => hno ho

@[simp] theorem State.setChan_taking (s : State) (p : Port) (v : Vector Word 8) (c : Fin 16) (ch : Channel) :
    (s.taking p v).setChan c ch = (s.setChan c ch).taking p v := rfl

/-! ## CONFIGURE CHANNEL (R91, R92) -/

theorem Channel.setsPosition_iff {ch : Channel} {x : ChannelConfig} :
    ch.setsPosition x = true ↔ x.mode = .sweep ∧ ch.mode ≠ .sweep ∨ x.sweepN ≠ ch.sweepN ∨ x.startQ ≠ ch.startQ := by
  simp [Channel.setsPosition, or_assoc]

/-- The six fields set and the phase restarted on entry to ALTERNATE (R91, R96), the sweep position as it was. -/
def Channel.reconfigured (ch : Channel) (x : ChannelConfig) : Channel :=
  { ch with
    mode := x.mode, source := x.source, line := x.line, edge := x.edge, sweepN := x.sweepN, startQ := x.startQ
    phase := if x.mode = .alternate ∧ ch.mode ≠ .alternate then .a else ch.phase }

theorem Channel.configure_restarts {ch : Channel} {x : ChannelConfig} (h : ch.setsPosition x = true) :
    ch.configure x = { ch.reconfigured x with pos := x.startQ * x.sweepN / 4, clamped := false } := by
  simp [Channel.configure, Channel.reconfigured, h]

theorem Channel.configure_continues {ch : Channel} {x : ChannelConfig} (h : ch.setsPosition x ≠ true) :
    ch.configure x = ch.reconfigured x := by
  simp [Channel.configure, Channel.reconfigured, h]

theorem Channel.configure_entersAlternate {ch : Channel} {x : ChannelConfig} (hx : x.mode = .alternate) (hch : ch.mode ≠ .alternate) :
    (ch.configure x).phase = .a := if_pos ⟨hx, hch⟩

section
variable {s : State} {n : Nest} (h : s.Accepts n.port)
include h

/-- R86: a channel number out of range. -/
theorem execConfigureChannel_badChannel (hc : 16 ≤ (s.param n.port 0).toNat) :
    exec (.configureChannel n.port) s = .next (s.answered n.port (.complete .range [])) := by
  refine congrArg Host.Outcome.next (State.stationCommand_answers h ?_)
  exact State.ownedChannel_range n _ (by rwa [State.param_taking])

variable {c : Fin 16} (hc : (s.param n.port 0).toNat = c.val)
include hc

/-- R86: a channel the nest does not own. -/
theorem execConfigureChannel_notOwner (ho : (s.chan c).owner ≠ some n) :
    exec (.configureChannel n.port) s = .next (s.answered n.port (.complete .notOwner [])) := by
  refine congrArg Host.Outcome.next (State.stationCommand_answers h ?_)
  exact State.ownedChannel_notOwner _ (by rwa [State.param_taking]) (by simpa using ho)

variable (ho : (s.chan c).owner = some n)
include ho

/-- R91: parameters that spell no configuration. -/
theorem execConfigureChannel_badParameters
    (hx : channelConfigOf c (s.param n.port 1).toNat (s.param n.port 2).toNat (s.param n.port 3).toNat (s.param n.port 4).toNat
      (s.param n.port 5).toNat (s.param n.port 6).toNat = none) :
    exec (.configureChannel n.port) s = .next (s.answered n.port (.complete .range [])) := by
  refine congrArg Host.Outcome.next (State.stationCommand_answers h ?_)
  rw [State.ownedChannel_owned (c := c) _ (by rwa [State.param_taking]) (by simpa using ho)]
  simp [hx, refuse]

/-- R91: parameters that spell the configuration x. -/
theorem execConfigureChannel_configures {x : ChannelConfig}
    (hx : channelConfigOf c (s.param n.port 1).toNat (s.param n.port 2).toNat (s.param n.port 3).toNat (s.param n.port 4).toNat
      (s.param n.port 5).toNat (s.param n.port 6).toNat = some x) :
    exec (.configureChannel n.port) s =
      .next ((s.setChan c ((s.chan c).configure x)).answered n.port (okWith [])) := by
  refine congrArg Host.Outcome.next (State.stationCommand_answers h ?_)
  rw [State.ownedChannel_owned (c := c) _ (by rwa [State.param_taking]) (by simpa using ho)]
  simp [hx, accept, okWith]

end

/-- Settles O40: the checks refuse in their turn, and the parameters otherwise spell one configuration, which restarts the sweep or not. -/
theorem configureChannelResult : Obligations.ConfigureChannelResult := by
  intro n s h p
  refine ⟨execConfigureChannel_badChannel h, fun c hc => ⟨execConfigureChannel_notOwner h hc, fun ho => ⟨fun hbad => ?refused,
    fun m source l e hm hs hl he hN hq hswitch => ?configured⟩⟩⟩
  case refused => exact execConfigureChannel_badParameters h hc ho (channelConfigOf_eq_none hbad)
  case configured =>
    have hx := channelConfigOf_eq_some (x := ⟨m, source, l, e, p 5, p 6⟩).mpr ⟨hm, hs, hl, he, rfl, rfl, hN, hq, hswitch⟩
    have hexec := execConfigureChannel_configures h hc ho hx
    refine ⟨fun hrestarts => ?restarts, fun hkeeps => ?continues⟩
    case restarts => rw [hexec, Channel.configure_restarts (Channel.setsPosition_iff.mpr hrestarts)]; rfl
    case continues => rw [hexec, Channel.configure_continues (mt Channel.setsPosition_iff.mp hkeeps)]; rfl

/-! ## The sweep profile (R98, Table 5-6) -/

theorem sweepProfile_rising {N n : Nat} (h : 4 * n ≤ N) : sweepProfile N n = n := if_pos (by omega)

theorem sweepProfile_falling {N n : Nat} (h : N < 4 * n) (h' : 4 * n ≤ 3 * N) : sweepProfile N n = ((N / 2 : Nat) : Int) - n :=
  (if_neg (by omega)).trans (if_pos (by omega))

theorem sweepProfile_returning {N n : Nat} (h : 3 * N < 4 * n) : sweepProfile N n = (n : Int) - N :=
  (if_neg (by omega)).trans (if_neg (by omega))

/-- The triangle stays within N/4, whichever of its three lines n is on. -/
theorem natAbs_sweepProfile_le {N n : Nat} (hN : 4 ∣ N) (hn : n < N) : (sweepProfile N n).natAbs ≤ N / 4 := by
  by_cases hrise : 4 * n ≤ N
  case pos => rw [sweepProfile_rising hrise]; omega
  case neg =>
    by_cases hfall : 4 * n ≤ 3 * N
    case pos => rw [sweepProfile_falling (by omega) hfall]; omega
    case neg => rw [sweepProfile_returning (by omega)]; omega

/-- The second half of the period mirrors the first. -/
theorem sweepProfile_half_add {N n : Nat} (hN : 4 ∣ N) (hn : n < N / 2) : sweepProfile N (N / 2 + n) = -sweepProfile N n := by
  by_cases hrise : 4 * n ≤ N
  case pos => rw [sweepProfile_rising hrise, sweepProfile_falling (by omega) (by omega)]; omega
  case neg => rw [sweepProfile_returning (by omega), sweepProfile_falling (by omega) (by omega)]; omega

theorem sum_add_sum_neg (l : List Int) : l.sum + (l.map fun v => -v).sum = 0 := by
  induction l with
  | nil => rfl
  | cons v l ih => rw [List.map_cons, List.sum_cons, List.sum_cons]; omega

/-- R98: the values of one period cancel, since the two halves do. -/
theorem sum_sweepProfile {N : Nat} (hN : 4 ∣ N) : ((List.range N).map (sweepProfile N)).sum = 0 := by
  have hsplit : List.range N = List.range (N / 2) ++ (List.range (N / 2)).map (N / 2 + ·) := by
    rw [← List.range_add]
    congr 1
    omega
  have hmirror : (List.range (N / 2)).map (sweepProfile N ∘ (N / 2 + ·)) =
      ((List.range (N / 2)).map (sweepProfile N)).map fun v => -v := by
    rw [List.map_map]
    exact List.map_congr_left fun n hn => sweepProfile_half_add hN (List.mem_range.mp hn)
  rw [hsplit, List.map_append, List.map_map, hmirror, List.sum_append_int, sum_add_sum_neg]

theorem four_dvd_of_sweepPeriod {N : Nat} (hN : N ∈ [4, 8, 16, 32, 64]) : 4 ∣ N := by
  revert N; decide

theorem pos_of_sweepPeriod {N : Nat} (hN : N ∈ [4, 8, 16, 32, 64]) : 0 < N := by
  revert N; decide

/-! ## A commit event by the mode (R95 to R97) -/

theorem Channel.commit_direct {x : Channel} (top : Nat) (h : x.mode = .direct) : x.commit top = x := by
  simp [Channel.commit, h]

theorem Channel.stageA_direct {x : Channel} (v : Nat) (h : x.mode = .direct) : x.stageA v = { x with stagedA := v, live := v } := by
  simp [Channel.stageA, h]

theorem Channel.commit_latched {x : Channel} (top : Nat) (h : x.mode = .latched) : x.commit top = { x with live := x.stagedA } := by
  simp [Channel.commit, h]

theorem Channel.commit_alternateA {x : Channel} (top : Nat) (h : x.mode = .alternate) (hphase : x.phase = .a) :
    x.commit top = { x with live := x.stagedA, phase := .b } := by
  simp [Channel.commit, h, hphase]

theorem Channel.commit_alternateB {x : Channel} (top : Nat) (h : x.mode = .alternate) (hphase : x.phase = .b) :
    x.commit top = { x with live := x.stagedB, phase := .a } := by
  simp [Channel.commit, h, hphase]

/-- R97: the channel with its sweep position advanced, past the last one to 0. -/
def Channel.advanced (x : Channel) : Channel := { x with pos := if x.pos + 1 = x.sweepN then 0 else x.pos + 1 }

theorem Channel.commit_sweep {x : Channel} (top : Nat) (h : x.mode = .sweep) :
    x.commit top = { x.advanced with
      live := clampTo top x.sweepSum, clamped := decide (x.sweepSum < 0) || decide ((top : Int) < x.sweepSum) } := by
  simp [Channel.commit, Channel.advanced, h]

section
variable {x : Channel} {top : Nat} (h : x.mode = .sweep)
include h

theorem Channel.commit_sweepWithin (hlow : 0 ≤ x.sweepSum) (hhigh : x.sweepSum ≤ top) :
    x.commit top = { x.advanced with live := x.sweepSum.toNat, clamped := false } := by
  simp [Channel.commit_sweep top h, clampTo, Int.not_lt.mpr hlow, Int.not_lt.mpr hhigh]

theorem Channel.commit_sweepAbove (hhigh : (top : Int) < x.sweepSum) :
    x.commit top = { x.advanced with live := top, clamped := true } := by
  have hlow : ¬ x.sweepSum < 0 := by omega
  simp [Channel.commit_sweep top h, clampTo, hlow, hhigh]

theorem Channel.commit_sweepBelow (hlow : x.sweepSum < 0) : x.commit top = { x.advanced with live := 0, clamped := true } := by
  simp [Channel.commit_sweep top h, clampTo, hlow]

end

/-- R97: the product of staged B and the profile over N/4, truncated toward zero. -/
def Channel.sweepQuotient (x : Channel) : Int := (x.stagedB * sweepProfile x.sweepN x.pos).tdiv (x.sweepN / 4 : Nat)

theorem Channel.sweepSum_eq (x : Channel) : x.sweepSum = x.stagedA + x.sweepQuotient := rfl

theorem Channel.sweepQuotient_nonneg {x : Channel} (h : 0 ≤ sweepProfile x.sweepN x.pos) : 0 ≤ x.sweepQuotient :=
  Int.tdiv_nonneg (Int.mul_nonneg (Int.natCast_nonneg _) h) (Int.natCast_nonneg _)

theorem Channel.sweepQuotient_nonpos {x : Channel} (h : sweepProfile x.sweepN x.pos ≤ 0) : x.sweepQuotient ≤ 0 :=
  Int.nonpos_of_neg_nonneg <| Int.neg_tdiv .. ▸ Int.tdiv_nonneg
    (Int.neg_nonneg_of_nonpos (Int.mul_nonpos_of_nonneg_of_nonpos (Int.natCast_nonneg _) h)) (Int.natCast_nonneg _)

theorem Channel.natAbs_sweepQuotient (x : Channel) :
    x.sweepQuotient.natAbs = x.stagedB * (sweepProfile x.sweepN x.pos).natAbs / (x.sweepN / 4) := by
  rw [Channel.sweepQuotient, Int.natAbs_tdiv, Int.natAbs_mul, Int.natAbs_natCast, Int.natAbs_natCast]
  rfl

/-- The profile is within N/4, so the quotient is within staged B. -/
theorem Channel.natAbs_sweepQuotient_le {x : Channel} (hN : 4 ∣ x.sweepN) (hpos : x.pos < x.sweepN) :
    x.sweepQuotient.natAbs ≤ x.stagedB := by
  rw [Channel.natAbs_sweepQuotient]
  refine Nat.div_le_of_le_mul ?_
  rw [Nat.mul_comm]
  exact Nat.mul_le_mul_right _ (natAbs_sweepProfile_le hN hpos)

/-! ## Which channels take a commit event (R94) -/

theorem Channel.ownerActive_iff {ch : Channel} {active : Nest → Bool} :
    ch.ownerActive active = true ↔ ∃ n, ch.owner = some n ∧ active n = true := by
  cases ho : ch.owner with
  | none => simp [Channel.ownerActive, ho]
  | some n => simp [Channel.ownerActive, ho]

/-- R94: a commit event does not reach a channel whose owner's run is not ACTIVE. -/
theorem State.chan_commitWhere_inactive {s : State} (sel : Fin 16 → Channel → Bool) {c : Fin 16}
    (h : ∀ n, (s.chan c).owner = some n → s.active n = false) : ((s.commitWhere sel).chan c).sameRecord (s.chan c) := by
  have hno : ¬ (sel c (s.chan c) = true ∧ (s.chan c).ownerActive s.active = true) := by
    rintro ⟨-, hactive⟩
    obtain ⟨n, howner, hn⟩ := Channel.ownerActive_iff.mp hactive
    exact Bool.false_ne_true ((h n howner).symm.trans hn)
  have htakes := s.chan_commitWhere sel c
  rwa [if_neg hno] at htakes

/-- Settles O41: the modes one by one, the lines of the profile, and the channels no commit event reaches. -/
theorem commitEvents : Obligations.CommitEvents := by
  refine ⟨fun x top v => ⟨fun h => ?direct, fun h => ?latched, fun h hphase => ?alternateA, fun h hphase => ?alternateB,
    fun h y hy => ?entry, fun h hN hpos => ?sweep⟩, fun N hN => ?profile, fun s sel c h => ?inactive⟩
  case direct => exact ⟨Channel.commit_direct top h, Channel.stageA_direct v h⟩
  case latched => exact Channel.commit_latched top h
  case alternateA => exact Channel.commit_alternateA top h hphase
  case alternateB => exact Channel.commit_alternateB top h hphase
  case entry =>
    rw [Channel.commit_alternateA top (x := x.configure y) hy (Channel.configure_entersAlternate hy h)]
    rfl
  case sweep =>
    exact ⟨x.sweepQuotient, Channel.sweepQuotient_nonneg, Channel.sweepQuotient_nonpos, x.natAbs_sweepQuotient,
      Channel.natAbs_sweepQuotient_le (four_dvd_of_sweepPeriod hN) hpos, Channel.commit_sweepWithin h,
      Channel.commit_sweepAbove h, Channel.commit_sweepBelow h⟩
  case profile =>
    have h4 := four_dvd_of_sweepPeriod hN
    have hpos := pos_of_sweepPeriod hN
    refine ⟨fun n hn => ⟨sweepProfile_rising, sweepProfile_falling, sweepProfile_returning, natAbs_sweepProfile_le h4 hn⟩,
      sum_sweepProfile h4, ?start, ?top, ?middle, ?bottom⟩
    case start => rw [sweepProfile_rising (by omega)]; omega
    case top => rw [sweepProfile_rising (by omega)]; omega
    case middle => rw [sweepProfile_falling (by omega) (by omega)]; omega
    case bottom => rw [sweepProfile_falling (by omega) (by omega)]; omega
  case inactive => exact State.chan_commitWhere_inactive sel h

end Sys2Proof.Machine
end

section
/-! PROOFS. The words of the cluster bus: the enumerations of Table 10-4 and the payload bytes of Table 10-8. -/

namespace Sys2Proof.Machine

/-! ## Enumerations -/

theorem linkStateOf_eq_some {k : Nat} {l : LinkState} : linkStateOf k = some l ↔ k = l.num := by
  constructor
  · intro h
    unfold linkStateOf at h
    split at h <;> cases h <;> rfl
  · rintro rfl
    cases l <;> rfl

theorem reservationOf_eq_some {k : Nat} {x : Reservation} : reservationOf k = some x ↔ k = x.num := by
  constructor
  · intro h
    unfold reservationOf at h
    split at h <;> cases h <;> rfl
  · rintro rfl
    cases x <;> rfl

theorem LinkState.num_le (l : LinkState) : l.num ≤ 2 := by cases l <;> decide

theorem Reservation.num_le (x : Reservation) : x.num ≤ 5 := by cases x <;> decide

theorem linkStateOf_eq_none {k : Nat} (h : 2 < k) : linkStateOf k = none := by
  rw [Option.eq_none_iff_forall_ne_some]
  intro l hl
  have hnum := linkStateOf_eq_some.mp hl
  have hle := l.num_le
  omega

theorem reservationOf_eq_none {k : Nat} (h : 5 < k) : reservationOf k = none := by
  rw [Option.eq_none_iff_forall_ne_some]
  intro x hx
  have hnum := reservationOf_eq_some.mp hx
  have hle := x.num_le
  omega

/-! ## Payload bytes -/

theorem wordOf_bytes (w : Word) : wordOf (w.extractLsb' 8 8) (w.extractLsb' 0 8) = w := by
  refine BitVec.eq_of_getLsbD_eq fun i hi => ?_
  rw [wordOf, BitVec.getLsbD_append, BitVec.getLsbD_extractLsb', BitVec.getLsbD_extractLsb']
  split
  next hlow => simp [hlow]
  next hhigh =>
    have hsplit : 8 + (i - 8) = i := by omega
    have hbyte : i - 8 < 8 := by omega
    simp [hsplit, hbyte]

/-- Table 10-8: the bytes taken from four words spell these words again. -/
theorem wordOf_payloadOf (d : Nat → Word) (k : Nat) (j : Fin 4) :
    let v := payloadOf (d k) (d (k + 1)) (d (k + 2)) (d (k + 3))
    wordOf (v[2 * j.val]'(by omega)) (v[2 * j.val + 1]'(by omega)) = d (k + j.val) := by
  match j with
  | 0 => exact wordOf_bytes _
  | 1 => exact wordOf_bytes _
  | 2 => exact wordOf_bytes _
  | 3 => exact wordOf_bytes _

theorem payloadWords_getD (v : Vector Byte 8) (j : Fin 4) (rest : List Word) :
    (payloadWords v ++ rest).getD j.val 0#16 = wordOf (v[2 * j.val]'(by omega)) (v[2 * j.val + 1]'(by omega)) := by
  match j with
  | 0 => rfl
  | 1 => rfl
  | 2 => rfl
  | 3 => rfl

/-- A byte of a composed frame: the first len of eight payload bytes are sent. -/
theorem take_payload_getElem? (v : Vector Byte 8) {len : Nat} (i : Fin 8) (h : i.val < len) :
    (v.toList.take len)[i.val]? = some v[i] := by
  rw [List.getElem?_take_of_lt h]
  simp

theorem length_take_payload (v : Vector Byte 8) (len : Nat) : (v.toList.take len).length = min len 8 := by simp

theorem toNat_wordOfNat {k : Nat} (h : k < 65536) : (wordOfNat k).toNat = k := by
  rw [wordOfNat, BitVec.toNat_ofNat]
  exact Nat.mod_eq_of_lt h

theorem toNat_busId {k : Nat} (h : k ≤ 2047) : (BitVec.ofNat 11 k : BusId).toNat = k := by
  rw [BitVec.toNat_ofNat]
  exact Nat.mod_eq_of_lt (by omega)

end Sys2Proof.Machine
end

section
/-! PROOFS. SET LINK, SET RESTART IDENTIFIER, WRITE BROADCAST ENTRY and READ BROADCAST ENTRY (R103, R107, R108, R114). -/

namespace Sys2Proof.Machine

/-! ## SET LINK (R103, R104, R108) -/

theorem Beu.setLink_same (b : Beu) (now : Nat) : b.setLink b.link now = b := if_pos rfl

theorem Beu.setLink_leaves {b : Beu} {l : LinkState} (now : Nat) (hl : l ≠ b.link) (hb : b.link = .active) :
    b.setLink l now = { b.leaveActive with link := l } := by
  rw [Beu.setLink, if_neg hl, if_pos hb]

theorem Beu.setLink_enters {b : Beu} (now : Nat) (hb : b.link ≠ .active) :
    b.setLink .active now = { b.enterActive now with link := .active } := by
  rw [Beu.setLink, if_neg (Ne.symm hb), if_neg hb, if_pos rfl]

theorem Beu.setLink_quiet {b : Beu} {l : LinkState} (now : Nat) (hl : l ≠ b.link) (hb : b.link ≠ .active) (ha : l ≠ .active) :
    b.setLink l now = { b with link := l } := by
  rw [Beu.setLink, if_neg hl, if_neg hb, if_neg ha]

section
variable {s : State} {n : Nest} (h : s.Accepts n.port)
include h

theorem execSetLink_range (hbig : 2 < (s.param n.port 0).toNat) :
    exec (.setLink n.port) s = .next (s.answered n.port (.complete .range [])) := by
  refine congrArg Host.Outcome.next (State.stationCommand_answers h ?_)
  rw [State.param_taking, linkStateOf_eq_none hbig]
  rfl

theorem execSetLink_sets {l : LinkState} {c : Beu} (hl : (s.param n.port 0).toNat = l.num) (hc : (s.bus n).setLink l s.ms = c) :
    exec (.setLink n.port) s = .next ((s.setBus n c).answered n.port (okWith [])) := by
  refine congrArg Host.Outcome.next (State.stationCommand_answers h ?_)
  rw [State.param_taking, linkStateOf_eq_some.mpr hl, ← hc]
  rfl

/-! ## SET RESTART IDENTIFIER (R114) -/

theorem execSetRestartIdentifier_clears (hclear : flagBit (s.param n.port 1) 0 = true) :
    exec (.setRestartIdentifier n.port) s = .next ((s.setBus n { s.bus n with restartId := none }).answered n.port (okWith [])
      (paramBits (.setRestartIdentifier n.port))) := by
  refine congrArg Host.Outcome.next (State.stationCommand_answers h ?_)
  simp [hclear, accept, okWith]

theorem execSetRestartIdentifier_range (hset : flagBit (s.param n.port 1) 0 = false) (hbig : 2047 < (s.param n.port 0).toNat) :
    exec (.setRestartIdentifier n.port) s =
      .next (s.answered n.port (.complete .range []) (paramBits (.setRestartIdentifier n.port))) := by
  refine congrArg Host.Outcome.next (State.stationCommand_answers h ?_)
  simp [hset, hbig, refuse]

theorem execSetRestartIdentifier_sets {id : BusId} (hset : flagBit (s.param n.port 1) 0 = false)
    (hid : (s.param n.port 0).toNat = id.toNat) :
    exec (.setRestartIdentifier n.port) s = .next ((s.setBus n { s.bus n with restartId := some id }).answered n.port (okWith [])
      (paramBits (.setRestartIdentifier n.port))) := by
  refine congrArg Host.Outcome.next (State.stationCommand_answers h ?_)
  have hsmall : ¬ 2047 < id.toNat := by omega
  simp [hset, hid, hsmall, accept, okWith]

end

/-! ## WRITE BROADCAST ENTRY (R107, R108) -/

/-- R107: the fields of WRITE BROADCAST ENTRY that are out of range, beside the number of the entry. -/
def broadcastWordsBad (ps : Vector Word 8) : Prop :=
  8 < bitField ps[1] 12 4 ∨ ps[6].toNat < 10 ∨ 10000 < ps[6].toNat ∨
    flagBit ps[0] 9 = true ∧ (6 < bitField ps[7] 0 3 ∨ bitField ps[1] 12 4 < bitField ps[7] 0 3 + 2)

/-- Table 10-8: the linked field of WRITE BROADCAST ENTRY, whatever its range. -/
def writtenLink (ps : Vector Word 8) : Option LinkedField :=
  if flagBit ps[0] 9 = true then some ⟨bitField ps[7] 0 3, ⟨bitField ps[7] 8 4, bitField_lt ..⟩⟩ else none

/-- R107, R108: the entry of WRITE BROADCAST ENTRY, whatever its ranges. -/
def writtenBroadcast (ps : Vector Word 8) (linkActive : Bool) (now : Nat) : Broadcast where
  id := BitVec.ofNat 11 (bitField ps[1] 0 11)
  len := bitField ps[1] 12 4
  bytes := payloadOf ps[2] ps[3] ps[4] ps[5]
  period := ps[6].toNat
  enabled := flagBit ps[0] 8
  linked := writtenLink ps
  timer := broadcastTimer (flagBit ps[0] 8 && linkActive) ps[6].toNat now

/-- R108: the timer of a written entry runs where the entry is enabled and the link is ACTIVE. -/
theorem broadcastTimer_eq (enabled : Bool) (l : LinkState) (period now : Nat) :
    broadcastTimer (enabled && l == .active) period now =
      if enabled = true ∧ l = .active then .running (now + period) else .stopped := by
  cases enabled with
  | false => rfl
  | true => cases l <;> rfl

theorem linkedFieldOf_present (w : Word) (len : Nat) :
    linkedFieldOf true w len = if bitField w 0 3 ≤ 6 ∧ bitField w 0 3 + 2 ≤ len then
      some (some ⟨bitField w 0 3, ⟨bitField w 8 4, bitField_lt ..⟩⟩) else none := by
  have hchan : index? 16 (bitField w 8 4) = some ⟨bitField w 8 4, bitField_lt ..⟩ := index?_some (bitField_lt ..)
  simp [linkedFieldOf, hchan]

theorem broadcastOf_good {ps : Vector Word 8} (a : Bool) (now : Nat) (h : ¬ broadcastWordsBad ps) :
    broadcastOf ps a now = some (writtenBroadcast ps a now) := by
  simp only [broadcastWordsBad, not_or, not_and, Nat.not_lt] at h
  obtain ⟨hlen, hlow, hhigh, hlink⟩ := h
  have hlinked : linkedFieldOf (flagBit ps[0] 9) ps[7] (bitField ps[1] 12 4) = some (writtenLink ps) := by
    cases hflag : flagBit ps[0] 9 with
    | false => simp [linkedFieldOf, writtenLink, hflag]
    | true => rw [linkedFieldOf_present, if_pos (hlink hflag), writtenLink, if_pos hflag]
  rw [broadcastOf, hlinked]
  exact if_pos ⟨hlen, hlow, hhigh⟩

theorem broadcastOf_bad {ps : Vector Word 8} (a : Bool) (now : Nat) (h : broadcastWordsBad ps) : broadcastOf ps a now = none := by
  rw [broadcastOf]
  split
  next linked hlinked =>
    refine if_neg fun ⟨hlen, hlow, hhigh⟩ => ?_
    rcases h with hbad | hbad | hbad | ⟨hflag, hbad⟩
    · omega
    · omega
    · omega
    · rw [hflag, linkedFieldOf_present, if_neg (by omega)] at hlinked
      cases hlinked
  next => rfl

@[simp] theorem State.setBcast_taking (s : State) (p : Port) (v : Vector Word 8) (n : Nest) (k : Fin 24) (b : Broadcast) :
    (s.taking p v).setBcast n k b = (s.setBcast n k b).taking p v := rfl

section
variable {s : State} {n : Nest} (h : s.Accepts n.port)
include h

theorem execWriteBroadcastEntry_range (hbad : 24 ≤ bitField (s.param n.port 0) 0 5 ∨ broadcastWordsBad (s.port n.port).params) :
    exec (.writeBroadcastEntry n.port) s =
      .next (s.answered n.port (.complete .range []) (paramBits (.writeBroadcastEntry n.port))) := by
  refine congrArg Host.Outcome.next (State.stationCommand_answers h ?_)
  simp only [State.param_taking, State.port_taking]
  rcases hbad with hk | hbad
  · rw [index?_none (by omega)]
    rfl
  · rw [broadcastOf_bad _ _ hbad]
    split
    next hsome => cases hsome
    next => rfl

theorem execWriteBroadcastEntry_writes {k : Fin 24} (hk : bitField (s.param n.port 0) 0 5 = k.val)
    (hgood : ¬ broadcastWordsBad (s.port n.port).params) :
    exec (.writeBroadcastEntry n.port) s =
      .next ((s.setBcast n k (writtenBroadcast (s.port n.port).params ((s.bus n).link == .active) s.ms)).answered n.port
        (okWith []) (paramBits (.writeBroadcastEntry n.port))) := by
  refine congrArg Host.Outcome.next (State.stationCommand_answers h ?_)
  simp only [State.param_taking, State.port_taking, State.taking_keeps, index?_eq_some.mpr hk, broadcastOf_good _ _ hgood]
  rfl

/-! ## READ BROADCAST ENTRY (R107, Table 10-8) -/

theorem execReadBroadcastEntry_range (hk : 24 ≤ (s.param n.port 0).toNat) :
    exec (.readBroadcastEntry n.port) s = .next (s.answered n.port (.complete .range [])) := by
  refine congrArg Host.Outcome.next (State.stationCommand_answers h ?_)
  rw [State.param_taking, index?_none (by omega)]
  rfl

theorem execReadBroadcastEntry_reads {k : Fin 24} (hk : (s.param n.port 0).toNat = k.val) :
    exec (.readBroadcastEntry n.port) s = .next (s.answered n.port (okWith ((s.bus n).bcast[k].words s.ms))) := by
  refine congrArg Host.Outcome.next (State.stationCommand_answers h ?_)
  rw [State.param_taking, index?_eq_some.mpr hk]
  rfl

end

/-- Table 10-8: the identifier and the length. -/
def Broadcast.idWord (x : Broadcast) : Word := packWord [(x.id.toNat, 0, 11), (x.len, 12, 4)]

/-- Table 10-8: the flags and the linked field. -/
def Broadcast.flagWord (x : Broadcast) : Word :=
  packWord [(flagNat x.enabled, 0, 1), (flagNat x.linked.isSome, 1, 1), (flagNat (decide (x.timer ≠ .stopped)), 2, 1),
    ((x.linked.map (·.offset)).getD 0, 4, 3), ((x.linked.map (·.chan.val)).getD 0, 8, 4)]

/-- The time left on a broadcast timer, as a word. -/
def Timer.leftWord (t : Timer) (now : Nat) : Word :=
  match t with
  | .stopped => 0#16
  | .running e => BitVec.ofNat 16 (e - now)

theorem Broadcast.words_eq (now : Nat) (x : Broadcast) :
    x.words now = [x.idWord, wordOf x.bytes[0] x.bytes[1], wordOf x.bytes[2] x.bytes[3], wordOf x.bytes[4] x.bytes[5],
      wordOf x.bytes[6] x.bytes[7], BitVec.ofNat 16 x.period, x.flagWord, x.timer.leftWord now] := by
  have hruns : (x.timer != .stopped) = decide (x.timer ≠ .stopped) := by cases x.timer <;> rfl
  rw [Broadcast.words, hruns]
  rfl

theorem Broadcast.idWord_fields (x : Broadcast) :
    bitField x.idWord 0 11 = x.id.toNat ∧ bitField x.idWord 11 1 = flagNat false ∧ bitField x.idWord 12 4 = x.len % 16 := by
  have hid := x.id.isLt
  have hreserved : flagNat false = 0 := rfl
  have hword : x.idWord.toNat = x.id.toNat + x.len % 16 * 4096 := by
    rw [Broadcast.idWord, toNat_packWord]
    simp only [List.map_cons, List.map_nil, List.sum_cons, List.sum_nil]
    omega
  simp only [bitField, hword]
  omega

theorem Broadcast.flagWord_fields (x : Broadcast) :
    let v := x.flagWord
    bitField v 0 1 = flagNat x.enabled ∧ bitField v 1 1 = flagNat x.linked.isSome ∧
    bitField v 2 1 = flagNat (decide (x.timer ≠ .stopped)) ∧ bitField v 4 3 = (x.linked.map (·.offset)).getD 0 % 8 ∧
    bitField v 8 4 = (x.linked.map (·.chan.val)).getD 0 := by
  have henabled := flagNat_lt x.enabled
  have hlinked := flagNat_lt x.linked.isSome
  have hruns := flagNat_lt (decide (x.timer ≠ .stopped))
  have hchan : (x.linked.map (·.chan.val)).getD 0 < 16 := by cases x.linked <;> simp
  have hword : x.flagWord.toNat = flagNat x.enabled + flagNat x.linked.isSome * 2 + flagNat (decide (x.timer ≠ .stopped)) * 4 +
      (x.linked.map (·.offset)).getD 0 % 8 * 16 + (x.linked.map (·.chan.val)).getD 0 * 256 := by
    rw [Broadcast.flagWord, toNat_packWord]
    simp only [List.map_cons, List.map_nil, List.sum_cons, List.sum_nil]
    omega
  simp only [bitField, hword]
  omega

/-! ## The statement -/

/-- Settles O45, command by command; SET LINK by the link state left and the one entered. -/
theorem linkAndBroadcastCommands : Obligations.LinkAndBroadcastCommands := by
  intro n s h b p becomes stopped
  refine ⟨execSetLink_range h, fun l hl => ?link, execSetRestartIdentifier_clears h, execSetRestartIdentifier_range h,
    fun id => execSetRestartIdentifier_sets h, ?write, execReadBroadcastEntry_range h, fun k hk => ?read⟩
  case link =>
    refine ⟨fun hsame => ?same, fun hne hactive => ?leaves, fun hinactive hactive => ?enters, fun hne hinactive hquiet => ?quiet⟩
    case same => rw [execSetLink_sets h hl (hsame ▸ Beu.setLink_same b s.ms), State.setBus_bus]
    case leaves => exact execSetLink_sets h hl (Beu.setLink_leaves s.ms hne hactive)
    case enters => exact execSetLink_sets h hl (hactive ▸ Beu.setLink_enters s.ms hinactive)
    case quiet => exact execSetLink_sets h hl (Beu.setLink_quiet s.ms hne hinactive hquiet)
  case write =>
    refine ⟨execWriteBroadcastEntry_range h, fun k hk hgood => ?written⟩
    case written =>
      have hnot : ¬ broadcastWordsBad (s.port n.port).params := fun hbad => hgood (.inr hbad)
      refine ⟨_, execWriteBroadcastEntry_writes h hk hnot, ?id, rfl, rfl, rfl, fun hoff => ?absent, fun hon => ?present,
        wordOf_bytes _, wordOf_bytes _, wordOf_bytes _, wordOf_bytes _, ?timer⟩
      case id => exact toNat_busId (Nat.le_of_lt_succ (bitField_lt ..))
      case absent => exact if_neg (ne_true_of_eq_false hoff)
      case present => exact ⟨⟨_, bitField_lt ..⟩, rfl, if_pos hon⟩
      case timer => exact broadcastTimer_eq ..
  case read =>
    obtain ⟨hid, hreserved, hlen⟩ := b.bcast[k].idWord_fields
    obtain ⟨henabled, hlinked, hruns, hoffset, hchan⟩ := b.bcast[k].flagWord_fields
    refine ⟨b.bcast[k].idWord, b.bcast[k].flagWord, ?words, hid, flagBit_of_bitField hreserved, hlen, flagBit_of_bitField henabled,
      flagBit_of_bitField hlinked, flagBit_of_bitField hruns, fun hnone => ?absent, fun y hsome => ?present⟩
    case words => rw [execReadBroadcastEntry_reads h hk, Broadcast.words_eq]; rfl
    case absent => rw [hoffset, hchan, hnone]; exact ⟨rfl, rfl⟩
    case present => rw [hoffset, hchan, hsome]; exact ⟨rfl, rfl⟩

end Sys2Proof.Machine
end

section
/-! PROOFS. WRITE REPLY ENTRY with its transfer, ARM REPLY and READ REPLY ENTRY (R111 to R113). -/

namespace Sys2Proof.Machine

/-! ## The commands (Table 10-8) -/

@[simp] theorem State.setReply_taking (s : State) (p : Port) (v : Vector Word 8) (n : Nest) (k : Fin 16) (r : Reply) :
    (s.taking p v).setReply n k r = (s.setReply n k r).taking p v := rfl

theorem Reply.arm_eq (r : Reply) (x : Reservation) (oneShot : Bool) :
    r.arm x oneShot = { r with
      reservation := x, oneShot := oneShot && decide (x ≠ .none), phase := if x = .alternate then .zero else r.phase } := by
  cases x <;> rfl

section
variable {s : State} {n : Nest} (h : s.Accepts n.port)
include h

theorem execWriteReplyEntry_range (hk : 16 ≤ (s.param n.port 0).toNat) :
    exec (.writeReplyEntry n.port) s = .next (s.answered n.port (.complete .range [])) := by
  refine congrArg Host.Outcome.next (State.stationCommand_answers h ?_)
  rw [State.param_taking, index?_none (by omega)]
  rfl

theorem execReadReplyEntry_range (hk : 16 ≤ (s.param n.port 0).toNat) :
    exec (.readReplyEntry n.port) s =
      .next (s.answered n.port (.complete .range []) (paramBits (.readReplyEntry n.port))) := by
  refine congrArg Host.Outcome.next (State.stationCommand_answers h ?_)
  rw [State.param_taking, index?_none (by omega)]
  rfl

theorem execArmReply_range (hbad : 16 ≤ (s.param n.port 0).toNat ∨ 5 < bitField (s.param n.port 1) 0 3) :
    exec (.armReply n.port) s = .next (s.answered n.port (.complete .range []) (paramBits (.armReply n.port))) := by
  refine congrArg Host.Outcome.next (State.stationCommand_answers h ?_)
  simp only [State.param_taking]
  rcases hbad with hk | hx
  · rw [index?_none (by omega)]
    rfl
  · rw [reservationOf_eq_none hx]
    split
    next hsome => cases hsome
    next => rfl

variable {k : Fin 16} (hk : (s.param n.port 0).toNat = k.val)
include hk

theorem execWriteReplyEntry_opens :
    exec (.writeReplyEntry n.port) s = .next (s.answered n.port (.takeIn (.replyEntry n k) 15)) := by
  refine congrArg Host.Outcome.next (State.stationCommand_answers h ?_)
  rw [State.param_taking, index?_eq_some.mpr hk]

theorem execArmReply_arms {x : Reservation} (hx : bitField (s.param n.port 1) 0 3 = x.num) :
    exec (.armReply n.port) s =
      .next ((s.setReply n k ((s.bus n).replies[k].arm x (flagBit (s.param n.port 1) 8))).answered n.port (okWith [])
        (paramBits (.armReply n.port))) := by
  refine congrArg Host.Outcome.next (State.stationCommand_answers h ?_)
  simp only [State.param_taking, index?_eq_some.mpr hk, reservationOf_eq_some.mpr hx]
  simp [accept, okWith]

theorem execReadReplyEntry_clears (hclear : flagBit (s.param n.port 1) 0 = true) :
    exec (.readReplyEntry n.port) s =
      .next ((s.setReply n k { (s.bus n).replies[k] with matchCount := 0, replyCount := 0, dropCount := 0 }).answered n.port
        (.sendOut (s.bus n).replies[k].stream) (paramBits (.readReplyEntry n.port))) := by
  refine congrArg Host.Outcome.next (State.stationCommand_answers h ?_)
  simp [index?_eq_some.mpr hk, hclear]

theorem execReadReplyEntry_keeps (hkeep : flagBit (s.param n.port 1) 0 = false) :
    exec (.readReplyEntry n.port) s =
      .next (s.answered n.port (.sendOut (s.bus n).replies[k].stream) (paramBits (.readReplyEntry n.port))) := by
  refine congrArg Host.Outcome.next (State.stationCommand_answers h ?_)
  simp [index?_eq_some.mpr hk, hkeep]

end

/-! ## The 19 words of READ REPLY ENTRY (R113) -/

/-- Table 10-8: the match byte with its presence flag. -/
def Reply.matchWord (r : Reply) : Word := packWord [((r.matchByte.getD 0#8).toNat, 0, 8), (flagNat r.matchByte.isSome, 8, 1)]

/-- R113: the reservation, the one-shot flag and the phase. -/
def Reply.armWord (r : Reply) : Word := packWord [(r.reservation.num, 0, 3), (flagNat r.oneShot, 4, 1), (r.phase.num, 8, 1)]

theorem Reply.stream_matchWord (r : Reply) : r.stream.getD 1 0#16 = r.matchWord := rfl

theorem Reply.stream_armWord (r : Reply) : r.stream.getD 15 0#16 = r.armWord := rfl

theorem Reply.stream_length (r : Reply) : r.stream.length = 19 := rfl

theorem Reply.matchWord_fields (r : Reply) :
    bitField r.matchWord 0 8 = (r.matchByte.getD 0#8).toNat ∧ bitField r.matchWord 8 8 = flagNat r.matchByte.isSome := by
  have hbyte := (r.matchByte.getD 0#8).isLt
  have hflag := flagNat_lt r.matchByte.isSome
  have hword : r.matchWord.toNat = (r.matchByte.getD 0#8).toNat + flagNat r.matchByte.isSome * 256 := by
    rw [Reply.matchWord, toNat_packWord]
    simp only [List.map_cons, List.map_nil, List.sum_cons, List.sum_nil]
    omega
  simp only [bitField, hword]
  omega

theorem BufferSel.num_eq (x : BufferSel) : x.num = flagNat (decide (x = .one)) := by cases x <;> rfl

theorem Reply.armWord_fields (r : Reply) :
    bitField r.armWord 0 3 = r.reservation.num ∧ bitField r.armWord 4 1 = flagNat r.oneShot ∧
    bitField r.armWord 8 1 = flagNat (decide (r.phase = .one)) := by
  have hreservation := r.reservation.num_le
  have honeShot := flagNat_lt r.oneShot
  have hphase := flagNat_lt (decide (r.phase = .one))
  have hword : r.armWord.toNat =
      r.reservation.num + flagNat r.oneShot * 16 + flagNat (decide (r.phase = .one)) * 256 := by
    rw [Reply.armWord, BufferSel.num_eq, toNat_packWord]
    simp only [List.map_cons, List.map_nil, List.sum_cons, List.sum_nil]
    omega
  simp only [bitField, hword]
  omega

theorem Reply.stream_buf0 (r : Reply) (j : Fin 4) :
    r.stream.getD (6 + j.val) 0#16 =
      wordOf (r.buf0.bytes[2 * j.val]'(by omega)) (r.buf0.bytes[2 * j.val + 1]'(by omega)) := by
  rw [← payloadWords_getD r.buf0.bytes j (r.stream.drop 10), Nat.add_comm]
  rfl

theorem Reply.stream_buf1 (r : Reply) (j : Fin 4) :
    r.stream.getD (11 + j.val) 0#16 =
      wordOf (r.buf1.bytes[2 * j.val]'(by omega)) (r.buf1.bytes[2 * j.val + 1]'(by omega)) := by
  rw [← payloadWords_getD r.buf1.bytes j (r.stream.drop 15), Nat.add_comm]
  rfl

/-! ## The 15th word of WRITE REPLY ENTRY (R111, R171) -/

/-- R111: the ranges of the fields WRITE REPLY ENTRY checks. -/
def replyWordsOk (d : Nat → Word) : Prop :=
  (d 0).toNat ≤ 2047 ∧ (d 2).toNat ≤ 2047 ∧ (d 3).toNat ≤ 255 ∧ 1 ≤ (d 4).toNat ∧ (d 4).toNat ≤ 5000 ∧ (d 5).toNat ≤ 8 ∧
    (d 10).toNat ≤ 8

/-- The entry WRITE REPLY ENTRY writes where the fields are in range. -/
def Reply.rewritten (r : Reply) (d : Nat → Word) : Reply :=
  { r with
    matchId := BitVec.ofNat 11 (d 0).toNat
    matchByte := if flagBit (d 1) 8 then some (BitVec.ofNat 8 (bitField (d 1) 0 8)) else none
    replyId := BitVec.ofNat 11 (d 2).toNat
    delay := (d 3).toNat
    defer := (d 4).toNat
    buf0 := ⟨(d 5).toNat, payloadOf (d 6) (d 7) (d 8) (d 9)⟩
    buf1 := ⟨(d 10).toNat, payloadOf (d 11) (d 12) (d 13) (d 14)⟩ }

theorem Reply.written_ok (r : Reply) {d : Nat → Word} (h : replyWordsOk d) : r.written d = some (r.rewritten d) := if_pos h

theorem Reply.written_bad (r : Reply) {d : Nat → Word} (h : ¬ replyWordsOk d) : r.written d = none := if_neg h

/-- The last word of an incoming transfer hands the block to its owner, which leaves t and answers a (R171). -/
theorem execDataWrite_last {s u : State} {p : Port} {t : InTarget} {need : Nat} {got : List Word} {x : Word} {a : Answer}
    (hspi : (s.port p).spi = some ⟨true, 18⟩) (hmode : (s.port p).mode = .dataIn t need got) (hlen : need ≤ got.length + 1)
    (happly : s.applyTransfer t (got ++ [x]) = (u, a)) :
    exec (.dataWrite p x) s = .next (u.setPort p { u.port p with mode := .busy a }) := by
  refine congrArg Host.Outcome.next ?_
  have hsame : { s.port p with spi := some ⟨true, slotAfter 18⟩ } = s.port p := by
    rw [show slotAfter 18 = 18 from rfl, ← hspi]
  rw [State.writeAccess_at hspi, hsame, State.setPort_port, State.storeWord, hmode]
  simp only [if_neg (Nat.not_lt.mpr hlen), happly]

section
variable {s : State} {p : Port} {n : Nest} {k : Fin 16} {got : List Word} {x : Word}
  (hspi : (s.port p).spi = some ⟨true, 18⟩) (hmode : (s.port p).mode = .dataIn (.replyEntry n k) 15 got) (hlen : got.length = 14)
include hspi hmode hlen

theorem execDataWrite_replyRefused (hbad : ¬ replyWordsOk fun i => (got ++ [x]).getD i 0#16) :
    exec (.dataWrite p x) s = .next (s.setPort p { s.port p with mode := .busy (.complete .range []) }) := by
  refine execDataWrite_last hspi hmode (by omega) ?_
  rw [State.applyTransfer, State.applyReplyWords, Reply.written_bad _ hbad]
  rfl

theorem execDataWrite_replyWritten (hok : replyWordsOk fun i => (got ++ [x]).getD i 0#16) :
    exec (.dataWrite p x) s =
      .next ((s.setReply n k ((s.bus n).replies[k].rewritten fun i => (got ++ [x]).getD i 0#16)).setPort p
        { s.port p with mode := .busy (okWith []) }) := by
  refine execDataWrite_last hspi hmode (by omega) ?_
  rw [State.applyTransfer, State.applyReplyWords, Reply.written_ok _ hok]
  rfl

end

/-! ## The statement -/

/-- Settles O46: the three commands with the number of the entry out of range and in range, and the transfer's last word. -/
theorem replyEntryCommands : Obligations.ReplyEntryCommands := by
  refine ⟨?commands, ?lastWord⟩
  case commands =>
    intro n s h p
    refine ⟨fun hbig i hi => ?range, fun hbig => execArmReply_range h (.inr hbig), fun k hk => ?entry⟩
    case range =>
      simp only [List.mem_cons, List.not_mem_nil, or_false] at hi
      rcases hi with rfl | rfl | rfl
      · exact execWriteReplyEntry_range h hbig
      · exact execReadReplyEntry_range h hbig
      · exact execArmReply_range h (.inl hbig)
    case entry =>
      intro r replaced
      obtain ⟨hbyte, hpresent⟩ := r.matchWord_fields
      obtain ⟨hreservation, honeShot, hphase⟩ := r.armWord_fields
      rw [← r.stream_matchWord] at hbyte hpresent
      rw [← r.stream_armWord] at hreservation honeShot hphase
      refine ⟨execWriteReplyEntry_opens h hk, fun x hx => ?arm, r.stream, execReadReplyEntry_clears h hk,
        execReadReplyEntry_keeps h hk, r.stream_length, toNat_wordOfNat (by omega), hbyte, hpresent, toNat_wordOfNat (by omega),
        rfl, rfl, rfl, rfl, fun j => ⟨r.stream_buf0 j, r.stream_buf1 j⟩, hreservation, flagBit_of_bitField honeShot,
        flagBit_of_bitField hphase, rfl, rfl, rfl⟩
      case arm =>
        rw [execArmReply_arms h hk hx, Reply.arm_eq]
        rfl
  case lastWord =>
    intro p n k x got s hspi hmode hlen d ok
    refine ⟨execDataWrite_replyRefused hspi hmode hlen, fun hok => ?written⟩
    case written =>
      let r := (s.bus n).replies[k]
      have hexec := execDataWrite_replyWritten hspi hmode hlen hok
      obtain ⟨hmatch, hreply, -⟩ := hok
      refine ⟨r.rewritten d, hexec, rfl, toNat_busId hmatch, fun hoff => ?absent, fun hon => ?present, toNat_busId hreply,
        rfl, rfl, rfl, rfl, fun j => ⟨wordOf_payloadOf d 6 j, wordOf_payloadOf d 11 j⟩⟩
      case absent => exact if_neg (by rw [hoff]; exact Bool.false_ne_true)
      case present => exact ⟨_, if_pos hon, (BitVec.toNat_ofNat ..).trans (Nat.mod_eq_of_lt (bitField_lt ..))⟩

end Sys2Proof.Machine
end

section
/-! PROOFS. Broadcast expiries (R108, R109), the transmitter (R104 to R106) and replies that fall due (R119 to R121). -/

namespace Sys2Proof.Machine

/-! ## BROADCAST TIMER EXPIRY (R108, R109) -/

theorem State.composeBroadcast_length (s : State) (n : Nest) (x : Broadcast) : (s.composeBroadcast n x).data.length = min x.len 8 :=
  length_take_payload ..

theorem State.composeBroadcast_plain (s : State) (n : Nest) {x : Broadcast} (hx : x.linked = none) (i : Fin 8) (hi : i.val < x.len) :
    (s.composeBroadcast n x).data[i.val]? = some x.bytes[i] := by
  rw [State.composeBroadcast, hx]
  exact take_payload_getElem? _ i hi

theorem linkPayload_getElem (bytes : Vector Byte 8) (offset value : Nat) (i : Fin 8) :
    (linkPayload bytes offset value)[i] = if i.val = offset then (wordOfNat value).extractLsb' 8 8
      else if i.val = offset + 1 then (wordOfNat value).extractLsb' 0 8 else bytes[i] := by
  simp [linkPayload]

theorem State.composeBroadcast_linked (s : State) (n : Nest) {x : Broadcast} {y : LinkedField} (hx : x.linked = some y) (i : Fin 8)
    (hi : i.val < x.len) :
    (s.composeBroadcast n x).data[i.val]? = some (if i.val = y.offset then (wordOfNat (s.seenBy n y.chan)).extractLsb' 8 8
      else if i.val = y.offset + 1 then (wordOfNat (s.seenBy n y.chan)).extractLsb' 0 8 else x.bytes[i]) := by
  rw [State.composeBroadcast, hx, ← linkPayload_getElem]
  exact take_payload_getElem? _ i hi

theorem Beu.txRoom_iff (b : Beu) : b.txRoom = true ↔ b.txq.length < 8 := decide_eq_true_iff

section
variable {s : State} {n : Nest} {k : Fin 24}

theorem execBroadcastTimerExpiry_idle (h : ∀ e, (s.bus n).bcast[k].timer = .running e → s.ms < e) :
    exec (.broadcastTimerExpiry n k) s = .next s := by
  refine congrArg Host.Outcome.next ?_
  cases htimer : (s.bus n).bcast[k].timer with
  | stopped => rfl
  | running e => exact if_neg (Nat.not_le.mpr (h e htimer))

variable {e : Nat} (htimer : (s.bus n).bcast[k].timer = .running e) (hdue : e ≤ s.ms)
include htimer hdue

/-- The bus after the expiry, before the frame joins its queue. -/
theorem execBroadcastTimerExpiry_due {t : State}
    (ht : t = s.setBcast n k { (s.bus n).bcast[k] with timer := .running (e + (s.bus n).bcast[k].period) }) :
    exec (.broadcastTimerExpiry n k) s = .next (if (t.bus n).txRoom then
      t.setBus n ((t.bus n).enqueue (s.composeBroadcast n (s.bus n).bcast[k]) (.broadcast k)) else t) := by
  subst ht
  refine congrArg Host.Outcome.next ?_
  simp only [htimer, if_pos hdue]

theorem execBroadcastTimerExpiry_queues (hroom : (s.bus n).txq.length < 8) :
    exec (.broadcastTimerExpiry n k) s = .next (s.setBus n { s.bus n with
      bcast := (s.bus n).bcast.set k { (s.bus n).bcast[k] with timer := .running (e + (s.bus n).bcast[k].period) }
      txq := (s.bus n).txq ++ [⟨s.composeBroadcast n (s.bus n).bcast[k], .broadcast k, 0⟩] }) := by
  rw [execBroadcastTimerExpiry_due htimer hdue rfl, if_pos ((Beu.txRoom_iff _).mpr (by simpa [State.setBcast] using hroom))]
  simp [State.setBcast, Beu.enqueue]

theorem execBroadcastTimerExpiry_skips (hfull : 8 ≤ (s.bus n).txq.length) :
    exec (.broadcastTimerExpiry n k) s = .next (s.setBus n { s.bus n with
      bcast := (s.bus n).bcast.set k { (s.bus n).bcast[k] with timer := .running (e + (s.bus n).bcast[k].period) } }) := by
  rw [execBroadcastTimerExpiry_due htimer hdue rfl,
    if_neg (mt (Beu.txRoom_iff _).mp (by simpa [State.setBcast] using hfull))]
  rfl

end

/-! ## TRANSMIT START and TRANSMISSION END (R104 to R106) -/

section
variable {s : State} {n : Nest}

theorem execTransmitStart_offers (hlink : (s.bus n).link = .active) (htx : (s.bus n).tx = .idle) (hq : (s.bus n).txq ≠ []) :
    exec (.transmitStart n) s = .next (s.setBus n { s.bus n with tx := .sending }) :=
  congrArg Host.Outcome.next (if_pos ⟨hlink, htx, hq⟩)

theorem execTransmitStart_quiet (h : (s.bus n).link ≠ .active ∨ (s.bus n).tx ≠ .idle ∨ (s.bus n).txq = []) :
    exec (.transmitStart n) s = .next s := by
  refine congrArg Host.Outcome.next (if_neg ?_)
  rintro ⟨hlink, htx, hq⟩
  rcases h with h | h | h
  · exact h hlink
  · exact h htx
  · exact hq h

theorem execTransmissionEnd_idle {o : TxOutcome} (htx : (s.bus n).tx = .idle) : exec (.transmissionEnd n o) s = .next s := by
  refine congrArg Host.Outcome.next ?_
  rw [htx]

/-- The end of a frame that leaves the queue as it was: an orphaned one, one of no queued frame, or one that lost arbitration. -/
theorem execTransmissionEnd_frees {o : TxOutcome}
    (h : (s.bus n).tx = .orphaned ∨ (s.bus n).tx = .sending ∧ ((s.bus n).txq = [] ∨ o = .arbitrationLost)) :
    exec (.transmissionEnd n o) s = .next (s.setBus n { s.bus n with tx := .idle }) := by
  refine congrArg Host.Outcome.next ?_
  rcases h with htx | ⟨htx, hq | rfl⟩
  · simp only [htx]
  · simp only [htx, hq]
  · cases hq : (s.bus n).txq with
    | nil => simp only [htx, hq]
    | cons f rest => simp only [htx, hq]

variable {f : TxFrame} {rest : List TxFrame} (htx : (s.bus n).tx = .sending) (hq : (s.bus n).txq = f :: rest)
include htx hq

theorem execTransmissionEnd_acknowledged :
    exec (.transmissionEnd n .acknowledged) s =
      .next ((s.setBus n { s.bus n with tx := .idle, txq := rest }).countReply n f.source) := by
  refine congrArg Host.Outcome.next ?_
  simp only [htx, hq]

theorem execTransmissionEnd_failed :
    exec (.transmissionEnd n .notAcknowledged) s = .next (s.attemptFailed n f rest) := by
  refine congrArg Host.Outcome.next ?_
  simp only [htx, hq]

end

theorem State.countReply_reply (s : State) (n : Nest) (b : Beu) (k : Fin 16) :
    (s.setBus n b).countReply n (.reply k) = s.setBus n { b with
      replies := b.replies.set k { b.replies[k] with replyCount := min 65535 (b.replies[k].replyCount + 1) } } := by
  simp [State.countReply, State.setReply, sat16]

theorem State.attemptFailed_again (s : State) (n : Nest) {f : TxFrame} (rest : List TxFrame) (h : f.attempts + 1 < 8) :
    s.attemptFailed n f rest =
      s.setBus n { s.bus n with tx := .idle, txq := { f with attempts := f.attempts + 1 } :: rest } := if_pos h

theorem State.attemptFailed_drops (s : State) (n : Nest) {f : TxFrame} (rest : List TxFrame) (h : 8 ≤ f.attempts + 1) :
    s.attemptFailed n f rest = (s.setBus n { s.bus n with tx := .idle, txq := rest }).setPort n.port
      ((s.port n.port).post ⟨n, .txFailed f.source⟩) := if_neg (Nat.not_lt.mpr h)

/-! ## REPLY DUE (R119 to R121, Table 6-3) -/

theorem execReplyDue_early {s : State} {n : Nest} {k : Nat} (h : ∀ x, (s.bus n).sched[k]? = some x → s.ms < x.due) :
    exec (.replyDue n k) s = .next s := by
  refine congrArg Host.Outcome.next ?_
  cases hx : (s.bus n).sched[k]? with
  | none => rfl
  | some x => exact if_neg (Nat.not_le.mpr (h x hx))

theorem execReplyDue_due {s : State} {n : Nest} {k : Nat} {x : Scheduled} (hx : (s.bus n).sched[k]? = some x) (hdue : x.due ≤ s.ms) :
    exec (.replyDue n k) s = .next (s.fallDue n k x) := by
  refine congrArg Host.Outcome.next ?_
  simp only [hx, if_pos hdue]

theorem BufferSel.flip_eq (p : BufferSel) : p.flip = if p = .zero then .one else .zero := by cases p <;> rfl

theorem Reply.bufferFor_alternate (r : Reply) : r.bufferFor .alternate = if r.phase = .zero then r.buf0 else r.buf1 := by
  rw [Reply.bufferFor]
  cases r.phase <;> rfl

/-- R120, Table 6-3: the frame a scheduled reply of the form composes. -/
def Reply.frameFor (r : Reply) (form : ReplyForm) : Frame :=
  ⟨r.replyId, (r.bufferFor form).bytes.toList.take (r.bufferFor form).len⟩

/-- R121: what a scheduled reply leaves in the list, the second part of a DEFER. -/
def Scheduled.second (x : Scheduled) (r : Reply) : List Scheduled :=
  if x.form = .deferFirst then [⟨x.entry, .deferSecond, x.due + r.defer⟩] else []

theorem State.fallDue_queues {s : State} {n : Nest} (k : Nat) (x : Scheduled) (hroom : (s.bus n).txq.length < 8) :
    s.fallDue n k x = s.setBus n { s.bus n with
      sched := (s.bus n).sched.eraseIdx k ++ x.second (s.bus n).replies[x.entry]
      txq := (s.bus n).txq ++ [⟨(s.bus n).replies[x.entry].frameFor x.form, .reply x.entry, 0⟩]
      replies := (s.bus n).replies.set x.entry ((s.bus n).replies[x.entry].sent x.form true) } := by
  have htx := (Beu.txRoom_iff _).mpr hroom
  simp only [State.fallDue, htx, if_true]
  rfl

theorem State.fallDue_drops {s : State} {n : Nest} (k : Nat) (x : Scheduled) (hfull : ¬ (s.bus n).txq.length < 8) :
    s.fallDue n k x = s.setBus n { s.bus n with
      sched := (s.bus n).sched.eraseIdx k ++ x.second (s.bus n).replies[x.entry]
      replies := (s.bus n).replies.set x.entry ((s.bus n).replies[x.entry].sent x.form false) } := by
  have htx := eq_false_of_ne_true (mt (Beu.txRoom_iff _).mp hfull)
  simp only [State.fallDue, htx, Bool.false_eq_true, if_false]
  rfl

/-! ## The statement -/

/-- Settles O48: the expiry by the room in the queue, the transmitter by its state and the outcome, the reply by its form and the room. -/
theorem framesSent : Obligations.FramesSent := by
  refine ⟨?expiry, ?transmitter, ?due⟩
  case expiry =>
    intro n k s b x
    exact ⟨execBroadcastTimerExpiry_idle, fun e htimer hdue => ⟨s.composeBroadcast n x, rfl, s.composeBroadcast_length n x,
      fun i hi hnone => s.composeBroadcast_plain n hnone i hi, fun y hsome i hi => s.composeBroadcast_linked n hsome i hi,
      execBroadcastTimerExpiry_queues htimer hdue, execBroadcastTimerExpiry_skips htimer hdue⟩⟩
  case transmitter =>
    intro n s b
    refine ⟨execTransmitStart_offers, execTransmitStart_quiet, fun o => ⟨execTransmissionEnd_idle, execTransmissionEnd_frees,
      fun f rest htx hq => ⟨fun k ho hsource => ?broadcast, fun k ho hsource => ?reply, fun ho hagain => ?again,
        fun ho hlast => ?dropped⟩⟩⟩
    case broadcast => rw [ho, execTransmissionEnd_acknowledged htx hq, hsource]; rfl
    case reply => rw [ho, execTransmissionEnd_acknowledged htx hq, hsource, State.countReply_reply]
    case again => rw [ho, execTransmissionEnd_failed htx hq, State.attemptFailed_again s n rest hagain]
    case dropped => rw [ho, execTransmissionEnd_failed htx hq, State.attemptFailed_drops s n rest hlast]
  case due =>
    intro n k s b
    refine ⟨execReplyDue_early, fun x hx hdue => ?falls⟩
    case falls =>
      intro r full buf
      have hbuf : r.bufferFor x.form = buf := by
        simp only [buf]
        cases x.form with
        | alternate => exact r.bufferFor_alternate
        | buffer0 | buffer1 | deferFirst | deferSecond => rfl
      rw [execReplyDue_due hx hdue]
      by_cases hfull : full
      · rw [State.fallDue_drops k x (Nat.not_lt.mpr hfull), if_pos hfull, if_pos hfull, Reply.sent, BufferSel.flip_eq]
        rfl
      · rw [State.fallDue_queues k x (Nat.not_le.mp hfull), if_neg hfull, if_neg hfull, Reply.sent, BufferSel.flip_eq,
          Reply.frameFor, hbuf]
        rfl

end Sys2Proof.Machine
end
